-- ==== Sys2Proof/Word.lean ====
section
/-! DEFINITION. The words of the machine: the 32-bit data path, the 40-bit command word and the 36-bit
response word (30_encoding.md R80, R81; 10_state.md R21). Bit 0 is the least significant bit (00_scope.md R11). -/

namespace Sys2Proof

/-- A byte of the transport (20_memory.md R65). -/
abbrev Byte := BitVec 8

/-- A value of the 32-bit data path (10_state.md R21). -/
abbrev Word := BitVec 32

/-- A command as it stands at the command port (30_encoding.md R80). -/
abbrev CommandWord := BitVec 40

/-- A response as it leaves the block (30_encoding.md R81). -/
abbrev ResponseWord := BitVec 36

/-- The number 1.0 of the `unit` format U1.31 (00_scope.md R6). -/
abbrev unitOne : Nat := 2 ^ 31

end Sys2Proof
end

