-- ==== Sys2Proof/Syntax.lean ====
section
/-! DEFINITION. The command set (30_encoding.md R84): one constructor of `Instr` for each row of the opcode table;
and the closed sets of names of the block (R90): register names and classes, modes, phases, curves, waveforms, tables,
statuses. -/

namespace Sys2Proof

/-- The thirteen commands, with their operands at the widths of 30_encoding.md R83. -/
inductive Instr where
  /-- `INIT`, R102. -/
  | init
  /-- `TICK`, R105. -/
  | tick
  /-- `ENV.GATE on`, R112 and R113. -/
  | envGate (on : Bool)
  /-- `ENV.ADV`, R115. -/
  | envAdv
  /-- `LFO.SETF value`, R132. -/
  | lfoSetf (value : Word)
  /-- `LFO.ADV`, R134. -/
  | lfoAdv
  /-- `LFO.SYNC`, R140. -/
  | lfoSync
  /-- `MAP.NOTEON note, vel`, R152. -/
  | mapNoteon (note vel : BitVec 8)
  /-- `MAP.ADV`, R163. -/
  | mapAdv
  /-- `MAP.NOTEOFF note`, R160. -/
  | mapNoteoff (note : BitVec 8)
  /-- `MAP.BEND bend`, R161. -/
  | mapBend (bend : BitVec 16)
  /-- `WRCFG r, value`, R176. -/
  | wrcfg (r : BitVec 6) (value : Word)
  /-- `RDREG r`, R178. -/
  | rdreg (r : BitVec 6)
deriving DecidableEq, Repr

/-- The forty registers in use, in the order of 10_state.md R21. -/
inductive Reg where
  | id | status | tickPeriod | tickCount | elapsedS | elapsedFrac
  | envCtrl | envAttackT | envDecayT | envSustain | envReleaseT | envState | envLevel | envTarget | envRemain
  | lfoCtrl | lfoFreq | lfoAmp | lfoOffset | lfoDuty | lfoSeed | lfoPhase | lfoHold | lfoRng | lfoValue
  | mapCtrl | mapScale | mapZeroNote | mapBendRange | mapGlideT | tabAddr | tabData
  | mapNote | mapBend | mapTarget | mapSlewRemain | mapNoteCv | mapNoteFrac | mapPitchCv | mapVelCv
deriving DecidableEq, Repr

/-- The register classes of 10_state.md R21. -/
inductive RegClass where
  /-- `CONST`: never written. -/
  | const
  /-- `CFG`: written by `WRCFG` in CONFIG mode. -/
  | cfg
  /-- `CFG+F`: as `CFG`, and by `LFO.SETF` in RUN mode. -/
  | cfgF
  /-- `PTR`: written by `WRCFG` in any mode. -/
  | ptr
  /-- `WIN`: the window onto a table entry. -/
  | win
  /-- `ST`: run-time state. -/
  | st
  /-- `CMP`: computed on every read. -/
  | cmp
deriving DecidableEq, Repr

/-- `STATUS.MODE` (30_encoding.md R90, 60_exceptions.md R196). -/
inductive Mode where
  | config | run | failed
deriving DecidableEq, Repr

/-- `ENV_STATE.PHASE` (R90). -/
inductive Phase where
  | idle | attack | decay | sustain | release
deriving DecidableEq, Repr

/-- `ENV_CTRL.CURVE` and `MAP_CTRL.GLIDE_CURVE` (R90). -/
inductive Curve where
  | linear | exponential
deriving DecidableEq, Repr

/-- `LFO_CTRL.WAVE` (R90). -/
inductive Waveform where
  | sine | triangle | square | saw | sampleHold
deriving DecidableEq, Repr

/-- `MAP_CTRL.VEL_CURVE` (R90). -/
inductive VelCurve where
  | linear | exponential | table
deriving DecidableEq, Repr

/-- `TAB_ADDR.SEL` (R90): the two writable table spaces (20_memory.md R60). -/
inductive TableSel where
  | trim | vlut
deriving DecidableEq, Repr

/-- The status of a response (60_exceptions.md R186). -/
inductive Status where
  | ok | valueOutOfRange | configurationError | modeError | illegal
deriving DecidableEq, Repr

/-- Why a command word is `ILLEGAL` (30_encoding.md R86). -/
inductive IllegalCause where
  | reservedOpcode | mustBeZero | registerNotInUse | registerNotWritable | valueNotLegal
deriving DecidableEq, Repr

/-- Which field of a MIDI event is out of range (60_exceptions.md R186). -/
inductive RangeField where
  | note | velocity | bend
deriving DecidableEq, Repr

/-- The pseudo-instructions of 30_encoding.md R89. -/
inductive Pseudo where
  | envLevel | lfoValue | lfoReset | mapPitch | mapVel | clkCount | envOn | envOff
  | wrtab (sel : TableSel) (idx : BitVec 7) (v : Word)
  | rdtab (sel : TableSel) (idx : BitVec 7)
deriving DecidableEq, Repr

end Sys2Proof
end

