-- ==== Sys2Proof/Machine/Operands.lean ====
section
/-! DEFINITION. The fields of a command word (30_encoding.md R80, R82), the operand formats (R83) and how each operand is
taken from `op` (R85). -/

namespace Sys2Proof.Machine

/-- `opcode`, bits [39:32] of the command word (R80). -/
def opcodeField (w : CommandWord) : BitVec 8 := w.extractLsb' 32 8

/-- `op`, bits [31:0] of the command word (R80). -/
def opField (w : CommandWord) : Word := w.extractLsb' 0 32

/-- The class, bits [7:6] of the opcode (R82). -/
def classField (opc : BitVec 8) : BitVec 2 := opc.extractLsb' 6 2

/-- The unit, bits [5:4] of a class 0 opcode (R82). -/
def unitField (opc : BitVec 8) : BitVec 2 := opc.extractLsb' 4 2

/-- The function, bits [3:0] of a class 0 opcode (R82). -/
def functionField (opc : BitVec 8) : BitVec 4 := opc.extractLsb' 0 4

/-- The register number `r`, bits [5:0] of a class 1 or class 2 opcode (R82, R85). -/
def registerField (opc : BitVec 8) : BitVec 6 := opc.extractLsb' 0 6

/-- `on`, bit 0 of `op` (format B, R85). -/
def onField (op : Word) : Bool := op.getLsbD 0

/-- `note`, bits [7:0] of `op` (formats K and K1, R85). -/
def noteField (op : Word) : BitVec 8 := op.extractLsb' 0 8

/-- `vel`, bits [15:8] of `op` (format K, R85). -/
def velField (op : Word) : BitVec 8 := op.extractLsb' 8 8

/-- `bend`, bits [15:0] of `op` (format P, R85). -/
def bendField (op : Word) : BitVec 16 := op.extractLsb' 0 16

/-- The must-be-zero bits of format N hold (R83). -/
def formatN (op : Word) : Bool := decide (op = 0#32)

/-- The must-be-zero bits [31:1] of format B hold (R83). -/
def formatB (op : Word) : Bool := decide (op.extractLsb' 1 31 = 0#31)

/-- The must-be-zero bits [31:16] of formats K and P hold (R83). -/
def formatK (op : Word) : Bool := decide (op.extractLsb' 16 16 = 0#16)

/-- The must-be-zero bits [31:8] of format K1 hold (R83). -/
def formatK1 (op : Word) : Bool := decide (op.extractLsb' 8 24 = 0#24)

/-- The number an 8-bit `note` or `vel` field stands for: `zext_8` (R85). -/
def eventNumber (x : BitVec 8) : Nat := x.toNat

/-- The number a `bend` field stands for: `sext_16` (R85). -/
def bendNumber (x : BitVec 16) : Int := x.toInt

end Sys2Proof.Machine
end

