-- ==== Sys2Proof/Machine/Registers.lean ====
section
/-! DEFINITION. The register map (10_state.md R21): the number and the class of each register, and its must-be-zero bits
under `WRCFG` (44_register_access.md R176). -/

namespace Sys2Proof.Machine

/-- The number of a register (R21). -/
def regNumber : Reg → BitVec 6
  | .id => 0x00#6
  | .status => 0x01#6
  | .tickPeriod => 0x02#6
  | .tickCount => 0x03#6
  | .elapsedS => 0x04#6
  | .elapsedFrac => 0x05#6
  | .envCtrl => 0x10#6
  | .envAttackT => 0x11#6
  | .envDecayT => 0x12#6
  | .envSustain => 0x13#6
  | .envReleaseT => 0x14#6
  | .envState => 0x18#6
  | .envLevel => 0x19#6
  | .envTarget => 0x1A#6
  | .envRemain => 0x1B#6
  | .lfoCtrl => 0x20#6
  | .lfoFreq => 0x21#6
  | .lfoAmp => 0x22#6
  | .lfoOffset => 0x23#6
  | .lfoDuty => 0x24#6
  | .lfoSeed => 0x25#6
  | .lfoPhase => 0x28#6
  | .lfoHold => 0x29#6
  | .lfoRng => 0x2A#6
  | .lfoValue => 0x2B#6
  | .mapCtrl => 0x30#6
  | .mapScale => 0x31#6
  | .mapZeroNote => 0x32#6
  | .mapBendRange => 0x33#6
  | .mapGlideT => 0x34#6
  | .tabAddr => 0x35#6
  | .tabData => 0x36#6
  | .mapNote => 0x38#6
  | .mapBend => 0x39#6
  | .mapTarget => 0x3A#6
  | .mapSlewRemain => 0x3B#6
  | .mapNoteCv => 0x3C#6
  | .mapNoteFrac => 0x3D#6
  | .mapPitchCv => 0x3E#6
  | .mapVelCv => 0x3F#6

/-- The registers of units 0 and 1 in use (R21). -/
def lowRegs : List Reg :=
  [.id, .status, .tickPeriod, .tickCount, .elapsedS, .elapsedFrac, .envCtrl, .envAttackT, .envDecayT, .envSustain,
   .envReleaseT, .envState, .envLevel, .envTarget, .envRemain]

/-- The registers of units 2 and 3 in use (R21). -/
def highRegs : List Reg :=
  [.lfoCtrl, .lfoFreq, .lfoAmp, .lfoOffset, .lfoDuty, .lfoSeed, .lfoPhase, .lfoHold, .lfoRng, .lfoValue,
   .mapCtrl, .mapScale, .mapZeroNote, .mapBendRange, .mapGlideT, .tabAddr, .tabData,
   .mapNote, .mapBend, .mapTarget, .mapSlewRemain, .mapNoteCv, .mapNoteFrac, .mapPitchCv, .mapVelCv]

/-- The forty registers in use, in the order of R21. -/
def allRegs : List Reg := lowRegs ++ highRegs

/-- The register of a number, none for the 24 reserved numbers (R21). -/
def regOfNumber (r : BitVec 6) : Option Reg := allRegs.find? fun x => regNumber x == r

/-- A register number is in use (30_encoding.md R87 step 2). -/
def regInUse (r : BitVec 6) : Bool := (regOfNumber r).isSome

/-- The class of a register (R21). -/
def regClass : Reg → RegClass
  | .id => .const
  | .status | .tickCount => .st
  | .tickPeriod => .cfg
  | .elapsedS | .elapsedFrac => .cmp
  | .envCtrl | .envAttackT | .envDecayT | .envSustain | .envReleaseT => .cfg
  | .envState | .envLevel | .envTarget | .envRemain => .st
  | .lfoFreq => .cfgF
  | .lfoCtrl | .lfoAmp | .lfoOffset | .lfoDuty | .lfoSeed => .cfg
  | .lfoPhase | .lfoHold | .lfoRng => .st
  | .lfoValue => .cmp
  | .mapCtrl | .mapScale | .mapZeroNote | .mapBendRange | .mapGlideT => .cfg
  | .tabAddr => .ptr
  | .tabData => .win
  | .mapNote | .mapBend | .mapTarget | .mapSlewRemain | .mapNoteCv | .mapNoteFrac | .mapVelCv => .st
  | .mapPitchCv => .cmp

/-- `WRCFG` may name a register of this class (30_encoding.md R87 step 3). -/
def classWritable : RegClass → Bool
  | .cfg | .cfgF | .ptr | .win => true
  | .const | .st | .cmp => false

/-- `WRCFG` may name this register. -/
def regWritable (x : Reg) : Bool := classWritable (regClass x)

/-- `MBZ(r)`, the must-be-zero bits of a `WRCFG` value (44_register_access.md R176). -/
def regMbz : Reg → Word
  | .envCtrl => 0xFFFFFFFC#32
  | .lfoCtrl => 0xFFFFFFF8#32
  | .mapCtrl => 0xFFFFFFF0#32
  | .mapZeroNote => 0xFFFFFF80#32
  | .mapBendRange => 0xFFFFFF00#32
  | .tabAddr => 0xFFFFFE80#32
  | _ => 0#32

end Sys2Proof.Machine
end

