-- ==== Sys2Proof/WellFormed.lean ====
section
/-! DEFINITION. Which instructions are well formed: those whose command word passes steps 1 to 4 of 30_encoding.md R87,
which depend on the word and the fixed register map alone. A register access that is not well formed still decodes; its
own rule answers it with `ILLEGAL` (44_register_access.md R176, R178). -/

namespace Sys2Proof

/-- The word-level checks of a `WRCFG` (R87 steps 2 to 4). -/
def wrcfgWellFormed (r : BitVec 6) (value : Word) : Bool :=
  match Machine.regOfNumber r with
  | none => false
  | some x => Machine.regWritable x && decide (value &&& Machine.regMbz x = 0#32)

/-- The word-level checks of each command. -/
def WellFormed : Instr → Bool
  | .init => true
  | .tick => true
  | .envGate _ => true
  | .envAdv => true
  | .lfoSetf _ => true
  | .lfoAdv => true
  | .lfoSync => true
  | .mapNoteon _ _ => true
  | .mapAdv => true
  | .mapNoteoff _ => true
  | .mapBend _ => true
  | .wrcfg r value => wrcfgWellFormed r value
  | .rdreg r => Machine.regInUse r

end Sys2Proof
end

