-- ==== Sys2Proof/Decode.lean ====
section
/-! DEFINITION. The decoder, total on every 40-bit word, rejecting by the cause of 30_encoding.md R86, and the encoder
written from the same table (R84). The checks of R87 that need only the row of the table stand here; those that depend on
the register number are in the rules of `WRCFG` and `RDREG` (R84, last paragraph), except for a class 2 word that matches
no row because its operand is not zero, whose cause is found by the order of R87. -/

namespace Sys2Proof

open Machine

/-- An instruction whose format holds, or `ILLEGAL(2)` (R87 step 4). -/
def withFormat (fits : Bool) (i : Instr) : Except IllegalCause Instr :=
  if fits then .ok i else .error .mustBeZero

/-- The class 0 rows of the opcode map (R84); an unassigned unit and function pair is a reserved opcode (R86). -/
def decodeOperation (opc : BitVec 8) (op : Word) : Except IllegalCause Instr :=
  if opc = 0x00#8 then withFormat (formatN op) .init
  else if opc = 0x01#8 then withFormat (formatN op) .tick
  else if opc = 0x10#8 then withFormat (formatB op) (.envGate (onField op))
  else if opc = 0x11#8 then withFormat (formatN op) .envAdv
  else if opc = 0x20#8 then .ok (.lfoSetf op)
  else if opc = 0x21#8 then withFormat (formatN op) .lfoAdv
  else if opc = 0x22#8 then withFormat (formatN op) .lfoSync
  else if opc = 0x30#8 then withFormat (formatK op) (.mapNoteon (noteField op) (velField op))
  else if opc = 0x31#8 then withFormat (formatN op) .mapAdv
  else if opc = 0x32#8 then withFormat (formatK1 op) (.mapNoteoff (noteField op))
  else if opc = 0x33#8 then withFormat (formatK op) (.mapBend (bendField op))
  else .error .reservedOpcode

/-- The class 2 row (R84), and for a nonzero operand the first failing check of R87: register number, then
must-be-zero bits. -/
def decodeRead (r : BitVec 6) (op : Word) : Except IllegalCause Instr :=
  if op = 0#32 then .ok (.rdreg r)
  else if regInUse r then .error .mustBeZero
  else .error .registerNotInUse

/-- The decoder (R80, R82, R84). -/
def decode (w : CommandWord) : Except IllegalCause Instr :=
  let opc := opcodeField w
  let op := opField w
  if classField opc = 0#2 then decodeOperation opc op
  else if classField opc = 1#2 then .ok (.wrcfg (registerField opc) op)
  else if classField opc = 2#2 then decodeRead (registerField opc) op
  else .error .reservedOpcode

/-- A command word from its opcode and operand (R80). -/
def commandWord (opc : BitVec 8) (op : Word) : CommandWord := opc ++ op

/-- The encoder, from the opcode map of R84. -/
def encode : Instr → CommandWord
  | .init => commandWord 0x00#8 0#32
  | .tick => commandWord 0x01#8 0#32
  | .envGate on => commandWord 0x10#8 (0#31 ++ BitVec.ofBool on)
  | .envAdv => commandWord 0x11#8 0#32
  | .lfoSetf value => commandWord 0x20#8 value
  | .lfoAdv => commandWord 0x21#8 0#32
  | .lfoSync => commandWord 0x22#8 0#32
  | .mapNoteon note vel => commandWord 0x30#8 (0#16 ++ vel ++ note)
  | .mapAdv => commandWord 0x31#8 0#32
  | .mapNoteoff note => commandWord 0x32#8 (0#24 ++ note)
  | .mapBend bend => commandWord 0x33#8 (0#16 ++ bend)
  | .wrcfg r value => commandWord (1#2 ++ r) value
  | .rdreg r => commandWord (2#2 ++ r) 0#32

/-- The `match` and `mask` of the row of spec/opcode_table.json that an instruction belongs to (R84). -/
def opcodeRow : Instr → CommandWord × CommandWord
  | .init => (0x0000000000#40, 0xFFFFFFFFFF#40)
  | .tick => (0x0100000000#40, 0xFFFFFFFFFF#40)
  | .envGate _ => (0x1000000000#40, 0xFFFFFFFFFE#40)
  | .envAdv => (0x1100000000#40, 0xFFFFFFFFFF#40)
  | .lfoSetf _ => (0x2000000000#40, 0xFF00000000#40)
  | .lfoAdv => (0x2100000000#40, 0xFFFFFFFFFF#40)
  | .lfoSync => (0x2200000000#40, 0xFFFFFFFFFF#40)
  | .mapNoteon _ _ => (0x3000000000#40, 0xFFFFFF0000#40)
  | .mapAdv => (0x3100000000#40, 0xFFFFFFFFFF#40)
  | .mapNoteoff _ => (0x3200000000#40, 0xFFFFFFFF00#40)
  | .mapBend _ => (0x3300000000#40, 0xFFFFFF0000#40)
  | .wrcfg _ _ => (0x4000000000#40, 0xC000000000#40)
  | .rdreg _ => (0x8000000000#40, 0xC0FFFFFFFF#40)

/-- The host's question to the decoder: the instruction of the word whose low `nbits` bits are those of `w`, the bits
above being zero. The command is one 40-bit word with bit 0 its least significant bit (R80, R11). -/
def decodeTableWord (nbits w : Nat) : Option Instr :=
  match decode (BitVec.ofNat 40 (w % 2 ^ nbits)) with
  | .ok i => some i
  | .error _ => none

/-- A pseudo-instruction's expansion (30_encoding.md R89). -/
def expandPseudo : Pseudo → List Instr
  | .envLevel => [.rdreg 0x19#6]
  | .lfoValue => [.rdreg 0x2B#6]
  | .lfoReset => [.lfoSync]
  | .mapPitch => [.rdreg 0x3E#6]
  | .mapVel => [.rdreg 0x3F#6]
  | .clkCount => [.rdreg 0x03#6]
  | .envOn => [.envGate true]
  | .envOff => [.envGate false]
  | .wrtab sel idx v => [.wrcfg 0x35#6 (tabPointer sel idx), .wrcfg 0x36#6 v]
  | .rdtab sel idx => [.wrcfg 0x35#6 (tabPointer sel idx), .rdreg 0x36#6]
where
  /-- The `TAB_ADDR` value `sel * 256 + idx` (R89). -/
  tabPointer (sel : TableSel) (idx : BitVec 7) : Word :=
    match sel with
    | .trim => 0#25 ++ idx
    | .vlut => 0#23 ++ 1#1 ++ 0#1 ++ idx

/-- A command on a byte-wide transport: five bytes, most significant first (20_memory.md R65). -/
def commandBytes (w : CommandWord) : List Byte :=
  [w.extractLsb' 32 8, w.extractLsb' 24 8, w.extractLsb' 16 8, w.extractLsb' 8 8, w.extractLsb' 0 8]

/-- The command word of five transported bytes, and the bytes after it; none if fewer than five have come (R65). -/
def commandOfBytes : List Byte → Option (CommandWord × List Byte)
  | b4 :: b3 :: b2 :: b1 :: b0 :: rest => some (b4 ++ b3 ++ b2 ++ b1 ++ b0, rest)
  | _ => none

/-- A response on a byte-wide transport: the status byte with bits [7:4] zero, then the data, most significant first
(R65). -/
def responseBytes (w : ResponseWord) : List Byte :=
  [0#4 ++ w.extractLsb' 32 4, w.extractLsb' 24 8, w.extractLsb' 16 8, w.extractLsb' 8 8, w.extractLsb' 0 8]

end Sys2Proof
end

