-- ==== Sys2Proof/Config.lean ====
section
/-! DEFINITION. What an implementation fixes: the four model parameters of 00_scope.md R5, as one record that every
rule using a parameter takes as an argument, and what the spec lets a model assume of them. The spec's default values
are in Sys2Proof/Machine/Parameters.lean. -/

namespace Sys2Proof

/-- The model parameters (00_scope.md R5; 92_eei_decisions.md, open parameters). -/
structure Params where
  /-- `EXP_RATE`, from a duration in ticks to a `rate` in 0..2^32 (00_scope.md R8). -/
  expRate : Word → Nat
  /-- `VEL_EXP`, from a velocity in 1..127 to a `unit` in 0..2^31 (43_midi_to_cv.md R158). -/
  velExp : Nat → Nat
  /-- `Prng`, the step of the sample-and-hold generator (42_lfo.md R137). -/
  prng : Word → Word
  /-- The contents of the `SINE` ROM, entries of the `wave` format (20_memory.md R62). -/
  sine : BitVec 8 → Int

/-- What a model may assume of the parameters (00_scope.md R8, 43_midi_to_cv.md R158, 20_memory.md R62). -/
structure Params.Legal (P : Params) : Prop where
  expRate_le : ∀ D, P.expRate D ≤ 2 ^ 32
  velExp_le : ∀ v, 1 ≤ v → v ≤ 127 → P.velExp v ≤ unitOne
  velExp_top : P.velExp 127 = unitOne
  sine_ge : ∀ i, -65536 ≤ P.sine i
  sine_le : ∀ i, P.sine i ≤ 65536

end Sys2Proof
end

