-- ==== Sys2Proof/Machine/Arith.lean ====
section
/-! DEFINITION. The named arithmetic functions of 00_scope.md R7 over unbounded integers, and the narrowings back to
register widths. -/

namespace Sys2Proof.Machine

/-- Division truncated toward zero, for a positive divisor (R7). -/
def tdiv (a b : Int) : Int := Int.tdiv a b

/-- Floor division, for a positive divisor (R7). -/
def fdiv (a b : Int) : Int := Int.fdiv a b

/-- The S16.16 product, exact and then floored (R7). -/
def mulq (a b : Int) : Int := fdiv (a * b) (2 ^ 16)

/-- A distance times a rate, exact and then floored (R7). -/
def mulrate (d : Int) (k : Nat) : Int := fdiv (d * k) (2 ^ 32)

/-- Saturation to the `fx` range (R7). -/
def sat32 (v : Int) : Int := max (-2147483648) (min 2147483647 v)

/-- A 32-bit register read as an `fx` number: `sext_32` (R7, R12). -/
def fxOf (w : Word) : Int := w.toInt

/-- A 32-bit register read as an unsigned number: `zext_32` (R7, R12). -/
def unsignedOf (w : Word) : Int := w.toNat

/-- The 32-bit pattern of an integer: `Pattern32` (44_register_access.md R178). -/
def pattern32 (v : Int) : Word := BitVec.ofInt 32 v

/-- The 48-bit pattern of an integer, for the accumulator (10_state.md R47). -/
def pattern48 (v : Int) : BitVec 48 := BitVec.ofInt 48 v

end Sys2Proof.Machine
end

