-- ==== Sys2Proof/Machine/State.lean ====
section
/-! DEFINITION. The state of the block as plain data (10_state.md R20): one record per unit, the two tables, and the
model's own view of the command port; the machine after reset; faults and refusals. A register whose bits are fields
is stored as its fields and assembled on a read (44_register_access.md R178). -/

namespace Sys2Proof.Machine

/-- A fault of the machine. There is none: the block has no trap, no vector and no error pin, and an error is only a
response (60_exceptions.md R185, R193). The type is empty, so no step can fault. -/
inductive Fault where
deriving DecidableEq, Repr

/-- A refusal of the model. -/
inductive Refusal where
  /-- Raised by `exec` for an instruction of the table that has no meaning in the model; safe, since nothing is claimed
  of it. No arm raises it. -/
  | notModelled (mnemonic : String)
deriving DecidableEq, Repr

/-- A response of the command port (30_encoding.md R81). -/
structure Response where
  status : Status
  data : Word
deriving DecidableEq, Repr

/-- What the host sends: a command word, or the reset input (00_scope.md R10, 70_reset_and_hazards.md R210). -/
inductive Input where
  | command (w : CommandWord)
  | reset
deriving DecidableEq, Repr

/-- Unit 0, the Tick Clock and the lifecycle (10_state.md R25 to R27). -/
structure SystemUnit where
  mode : Mode
  cfgCause : BitVec 3
  tickPeriod : Word
  tickCount : Word
deriving DecidableEq, Repr

/-- Unit 1, the envelope (10_state.md R29 to R35). -/
structure Envelope where
  curve : Curve
  legato : Bool
  attackT : Word
  decayT : Word
  sustain : Word
  releaseT : Word
  phase : Phase
  gate : Bool
  level : Word
  target : Word
  remain : Word
deriving DecidableEq, Repr

/-- Unit 2, the LFO (10_state.md R37 to R43). `hold` is the 17-bit two's complement number that `LFO_HOLD` shows. -/
structure Lfo where
  wave : Waveform
  freq : Word
  amp : Word
  offset : Word
  duty : Word
  seed : Word
  phase : Word
  hold : BitVec 17
  rng : Word
deriving DecidableEq, Repr

/-- Unit 3, the mapper (10_state.md R45 to R51). `bend` is the 14-bit two's complement number that `MAP_BEND` shows,
`acc` the 48-bit accumulator of R47. -/
structure Mapper where
  velCurve : VelCurve
  glideEn : Bool
  glideCurve : Curve
  scale : Word
  zeroNote : BitVec 7
  bendRange : BitVec 8
  glideT : Word
  note : BitVec 7
  bend : BitVec 14
  target : Word
  slewRemain : Word
  acc : BitVec 48
  velCv : Word
deriving DecidableEq, Repr

/-- The table pointer `TAB_ADDR` (10_state.md R52). -/
structure TabAddr where
  sel : TableSel
  idx : BitVec 7
deriving DecidableEq, Repr

/-- A table of 128 entries (20_memory.md R60): (index, entry) pairs in canonical form, see `tableWf`. -/
abbrev Table := List (Nat × Word)

/-- What an unlisted entry of a table reads as: its reset value (10_state.md R55). -/
def tableUnlisted : Word := 0#32

/-- The two writable tables (20_memory.md R63, R64). -/
structure Memory where
  trim : Table
  vlut : Table
deriving DecidableEq, Repr

/-- The whole machine. `inbox` (what the host has sent and the block has not taken yet, oldest first) and `response`
(what the last input taken was answered) are the model's own fields: log entries 1 and 2. -/
structure State where
  sys : SystemUnit
  env : Envelope
  lfo : Lfo
  map : Mapper
  tab : TabAddr
  mem : Memory
  inbox : List Input
  response : Option Response
deriving DecidableEq, Repr

/-- The indices of a table rise strictly from `low` on, stay below 128, and no listed entry equals what an unlisted one
reads as. -/
def tableWfFrom (low : Nat) : Table → Bool
  | [] => true
  | (k, v) :: rest => decide (low ≤ k) && decide (k < 128) && decide (v ≠ tableUnlisted) && tableWfFrom (k + 1) rest

/-- The canonical form of a table, so that equal contents are equal data. -/
def tableWf (t : Table) : Bool := tableWfFrom 0 t

/-- The canonical form of both tables. -/
def Memory.wf (m : Memory) : Bool := tableWf m.trim && tableWf m.vlut

/-- Replace the system unit. -/
def State.setSys (s : State) (x : SystemUnit) : State := { s with sys := x }
/-- Replace the envelope. -/
def State.setEnv (s : State) (x : Envelope) : State := { s with env := x }
/-- Replace the LFO. -/
def State.setLfo (s : State) (x : Lfo) : State := { s with lfo := x }
/-- Replace the mapper. -/
def State.setMap (s : State) (x : Mapper) : State := { s with map := x }
/-- Replace the table pointer. -/
def State.setTab (s : State) (x : TabAddr) : State := { s with tab := x }
/-- Replace the tables. -/
def State.setMem (s : State) (x : Memory) : State := { s with mem := x }
/-- Replace the waiting inputs. -/
def State.setInbox (s : State) (x : List Input) : State := { s with inbox := x }
/-- Replace the response. -/
def State.setResponse (s : State) (x : Option Response) : State := { s with response := x }

/-- The state after reset: the reset column of 10_state.md R21, in words R55. -/
def State.reset : State where
  sys := { mode := .config, cfgCause := 0#3, tickPeriod := 0#32, tickCount := 0#32 }
  env :=
    { curve := .linear, legato := false, attackT := 0#32, decayT := 0#32, sustain := 0#32, releaseT := 0#32,
      phase := .idle, gate := false, level := 0#32, target := 0#32, remain := 0#32 }
  lfo :=
    { wave := .sine, freq := 0#32, amp := 0#32, offset := 0#32, duty := 0x80000000#32, seed := 0#32,
      phase := 0#32, hold := 0#17, rng := 0#32 }
  map :=
    { velCurve := .linear, glideEn := false, glideCurve := .linear, scale := 0#32, zeroNote := 0#7, bendRange := 0#8,
      glideT := 0#32, note := 0#7, bend := 0#14, target := 0#32, slewRemain := 0#32, acc := 0#48, velCv := 0#32 }
  tab := { sel := .trim, idx := 0#7 }
  mem := { trim := [], vlut := [] }
  inbox := []
  response := none

end Sys2Proof.Machine
end

