-- ==== Sys2Proof/Machine/Flags.lean ====
section
/-! DEFINITION. The block has no arithmetic flag (10_state.md R53). What stands here is its status bits and closed
enumerations: their codes (30_encoding.md R90), the response codes (60_exceptions.md R186), and the registers that are
assembled from fields (10_state.md R21). -/

namespace Sys2Proof.Machine

/-- The code of `STATUS.MODE` (R90). -/
def modeCode : Mode → BitVec 2
  | .config => 0#2
  | .run => 1#2
  | .failed => 2#2

/-- The code of `ENV_STATE.PHASE` (R90). -/
def phaseCode : Phase → BitVec 3
  | .idle => 0#3
  | .attack => 1#3
  | .decay => 2#3
  | .sustain => 3#3
  | .release => 4#3

/-- The code of a curve selector (R90). -/
def curveCode : Curve → BitVec 1
  | .linear => 0#1
  | .exponential => 1#1

/-- The curve of a selector bit (R90). -/
def curveOfBit (b : Bool) : Curve := if b then .exponential else .linear

/-- The code of `LFO_CTRL.WAVE` (R90). -/
def waveCode : Waveform → BitVec 3
  | .sine => 0#3
  | .triangle => 1#3
  | .square => 2#3
  | .saw => 3#3
  | .sampleHold => 4#3

/-- The waveform of a code, none for the reserved codes 5, 6, 7 (10_state.md R37). -/
def waveOfCode (c : BitVec 3) : Option Waveform :=
  if c = 0#3 then some .sine
  else if c = 1#3 then some .triangle
  else if c = 2#3 then some .square
  else if c = 3#3 then some .saw
  else if c = 4#3 then some .sampleHold
  else none

/-- The code of `MAP_CTRL.VEL_CURVE` (R90). -/
def velCurveCode : VelCurve → BitVec 2
  | .linear => 0#2
  | .exponential => 1#2
  | .table => 2#2

/-- The velocity curve of a code, none for the reserved code 3 (10_state.md R45). -/
def velCurveOfCode (c : BitVec 2) : Option VelCurve :=
  if c = 0#2 then some .linear
  else if c = 1#2 then some .exponential
  else if c = 2#2 then some .table
  else none

/-- The code of `TAB_ADDR.SEL` (R90). -/
def selCode : TableSel → BitVec 1
  | .trim => 0#1
  | .vlut => 1#1

/-- The table of a selector bit (R90). -/
def selOfBit (b : Bool) : TableSel := if b then .vlut else .trim

/-- The four-bit status code of a response (R186). -/
def statusCode : Status → BitVec 4
  | .ok => 0#4
  | .valueOutOfRange => 1#4
  | .configurationError => 2#4
  | .modeError => 3#4
  | .illegal => 4#4

/-- The `info` of an `ILLEGAL` response (30_encoding.md R86). -/
def illegalInfo : IllegalCause → Word
  | .reservedOpcode => 1#32
  | .mustBeZero => 2#32
  | .registerNotInUse => 3#32
  | .registerNotWritable => 4#32
  | .valueNotLegal => 5#32

/-- The `info` of a `VALUE_OUT_OF_RANGE` response (R186). -/
def rangeInfo : RangeField → Word
  | .note => 1#32
  | .velocity => 2#32
  | .bend => 3#32

/-- `STATUS` assembled: [1:0] MODE, [6:4] CFG_CAUSE (10_state.md R25). -/
def statusWord (u : SystemUnit) : Word := 0#25 ++ u.cfgCause ++ 0#2 ++ modeCode u.mode

/-- `ENV_CTRL` assembled: [0] CURVE, [1] LEGATO (10_state.md R29). -/
def envCtrlWord (e : Envelope) : Word := 0#30 ++ BitVec.ofBool e.legato ++ curveCode e.curve

/-- `ENV_STATE` assembled: [2:0] PHASE, [4] GATE (10_state.md R32). -/
def envStateWord (e : Envelope) : Word := 0#27 ++ BitVec.ofBool e.gate ++ 0#1 ++ phaseCode e.phase

/-- `LFO_CTRL` assembled: [2:0] WAVE (10_state.md R37). -/
def lfoCtrlWord (l : Lfo) : Word := 0#29 ++ waveCode l.wave

/-- `MAP_CTRL` assembled: [1:0] VEL_CURVE, [2] GLIDE_EN, [3] GLIDE_CURVE (10_state.md R45). -/
def mapCtrlWord (m : Mapper) : Word :=
  0#28 ++ curveCode m.glideCurve ++ BitVec.ofBool m.glideEn ++ velCurveCode m.velCurve

/-- `TAB_ADDR` assembled: [6:0] IDX, [8] SEL (10_state.md R52). -/
def tabAddrWord (t : TabAddr) : Word := 0#23 ++ selCode t.sel ++ 0#1 ++ t.idx

/-- The response as the 36-bit word of the port: [35:32] status, [31:0] data (30_encoding.md R81). -/
def responseWord (r : Response) : ResponseWord := statusCode r.status ++ r.data

end Sys2Proof.Machine
end

