-- ==== Sys2Proof/Machine/Ops.lean ====
section
/-! DEFINITION. The operations the command rules share: responses, rejections, the mode check, the tables, the curve
step, the pitch of a note, taking an input from the port, and reset. -/

namespace Sys2Proof.Machine

/-- What a command answers: it always completes, with a next state. -/
abbrev Result := Host.Outcome State Fault Refusal

/-- `respond(v)`: the command ends with status `OK` (00_scope.md R12). -/
def respond (v : Word) (s : State) : Result := .next (s.setResponse (some { status := .ok, data := v }))

/-- `raise <Status>(info)`: the one way an error is taken. Nothing is saved and control does not move; the whole effect is
the response (00_scope.md R12; 60_exceptions.md R186, R193). There is no return from it: the next command is taken as any
other (R194). -/
def raise (status : Status) (info : Word) (s : State) : Result := .next (s.setResponse (some { status, data := info }))

/-- `raise ILLEGAL(info)` (30_encoding.md R86). -/
def raiseIllegal (cause : IllegalCause) (s : State) : Result := raise .illegal (illegalInfo cause) s

/-- `raise VALUE_OUT_OF_RANGE(info)` (60_exceptions.md R186). -/
def raiseRange (field : RangeField) (s : State) : Result := raise .valueOutOfRange (rangeInfo field) s

/-- `raise MODE_ERROR(MODE)` (60_exceptions.md R186, R196). -/
def raiseMode (s : State) : Result := raise .modeError ((modeCode s.sys.mode).setWidth 32) s

/-- `raise CONFIGURATION_ERROR(mask)` (60_exceptions.md R186). -/
def raiseConfiguration (mask : BitVec 3) (s : State) : Result := raise .configurationError (mask.setWidth 32) s

/-- The mode check of a command that only one mode performs (30_encoding.md R87 step 5; 60_exceptions.md R196). -/
def inMode (m : Mode) (s : State) (body : Result) : Result := if s.sys.mode = m then body else raiseMode s

/-- An entry of a table (20_memory.md R60). -/
def tableRead : Table → Nat → Word
  | [], _ => tableUnlisted
  | (k, v) :: rest, i => if i = k then v else tableRead rest i

/-- A listed entry, or nothing where the value is what an unlisted entry reads as. -/
def tableCell (i : Nat) (v : Word) : Table := if v = tableUnlisted then [] else [(i, v)]

/-- Replace an entry of a table, keeping the canonical form (20_memory.md R60). -/
def tableWrite : Table → Nat → Word → Table
  | [], i, v => tableCell i v
  | (k, x) :: rest, i, v =>
    if i < k then tableCell i v ++ (k, x) :: rest
    else if i = k then tableCell i v ++ rest
    else (k, x) :: tableWrite rest i v

/-- `MemRead(space : i, 1)` of `TRIM` and `VLUT` (00_scope.md R12, 20_memory.md R60). -/
def memRead (m : Memory) (space : TableSel) (i : Nat) : Word :=
  match space with
  | .trim => tableRead m.trim i
  | .vlut => tableRead m.vlut i

/-- `MemWrite(space : i, 1, v)` (00_scope.md R12, 20_memory.md R60). -/
def memWrite (m : Memory) (space : TableSel) (i : Nat) (v : Word) : Memory :=
  match space with
  | .trim => { m with trim := tableWrite m.trim i v }
  | .vlut => { m with vlut := tableWrite m.vlut i v }

/-- `SegStep(cur, tgt, rem, curve, dur)`: the new value, the new remaining count and whether the segment completed
(00_scope.md R9). -/
def segStep (P : Params) (cur tgt : Int) (rem : Word) (curve : Curve) (dur : Word) : Int × Word × Bool :=
  if rem.toNat ≤ 1 then (tgt, 0#32, true)
  else
    match curve with
    | .linear => (cur + tdiv (tgt - cur) rem.toNat, rem - 1#32, false)
    | .exponential => (cur + mulrate (tgt - cur) (P.expRate dur), rem - 1#32, false)

/-- `NoteTarget(n)` (43_midi_to_cv.md R155). -/
def noteTarget (m : Mapper) (mem : Memory) (n : Nat) : Int :=
  sat32 (fdiv (fxOf m.scale * ((n : Int) - (m.zeroNote.toNat : Int))) 12 + fxOf (memRead mem .trim n))

/-- `Reset()`: every register and table entry takes its reset value, and no response is produced
(70_reset_and_hazards.md R210). What the host has yet to send is not state of the block and stays. -/
def takeReset (s : State) : State := State.reset.setInbox s.inbox

/-- The next input from the host and the state with that input taken; none if the host has sent nothing. It stands where
a processor fetches (10_state.md R22; 00_scope.md R10). -/
def fetchInput (s : State) : Option (Input × State) :=
  match s.inbox with
  | [] => none
  | x :: rest => some (x, s.setInbox rest)

end Sys2Proof.Machine
end

