-- ==== Sys2Proof/Machine/Parameters.lean ====
section
/-! DEFINITION. The spec's default values of the four model parameters (00_scope.md R5) and the parameters the machine
runs with, which are those defaults: log entry 3. -/

namespace Sys2Proof.Machine

/-- The greatest `r` of the search interval with `100 * r ^ D ≤ 2 ^ (32 * D)`, found from the top bit down: `bits` bits
are still open and `r` holds the bits found so far. -/
def expResidueFrom (D : Nat) : Nat → Nat → Nat
  | 0, r => r
  | bits + 1, r =>
    if 100 * (r + 2 ^ bits) ^ D ≤ 2 ^ (32 * D) then expResidueFrom D bits (r + 2 ^ bits) else expResidueFrom D bits r

/-- The default `EXP_RATE` (00_scope.md R8). For `D ≥ 1` the residue is below 2^32, so 32 bits are searched. -/
def defaultExpRate (D : Word) : Nat :=
  if D = 0#32 then 2 ^ 32 else 2 ^ 32 - expResidueFrom D.toNat 32 0

/-- The default `VEL_EXP`, the square law (43_midi_to_cv.md R158). -/
def defaultVelExp (v : Nat) : Nat := v * v * unitOne / 16129

/-- The default `Prng` (42_lfo.md R137). -/
def defaultPrng (s : Word) : Word := 1664525#32 * s + 1013904223#32

/-- Entries 0 to 31 of the default `SINE` ROM (20_memory.md R62). -/
def sineRows0 : List Int :=
  [
   0, 1608, 3216, 4821, 6424, 8022, 9616, 11204,
   12785, 14359, 15924, 17479, 19024, 20557, 22078, 23586,
   25080, 26558, 28020, 29466, 30893, 32303, 33692, 35062,
   36410, 37736, 39040, 40320, 41576, 42806, 44011, 45190]

/-- Entries 32 to 63 of the default `SINE` ROM (20_memory.md R62). -/
def sineRows1 : List Int :=
  [
   46341, 47464, 48559, 49624, 50660, 51665, 52639, 53581,
   54491, 55368, 56212, 57022, 57798, 58538, 59244, 59914,
   60547, 61145, 61705, 62228, 62714, 63162, 63572, 63944,
   64277, 64571, 64827, 65043, 65220, 65358, 65457, 65516]

/-- Entries 64 to 95 of the default `SINE` ROM (20_memory.md R62). -/
def sineRows2 : List Int :=
  [
   65536, 65516, 65457, 65358, 65220, 65043, 64827, 64571,
   64277, 63944, 63572, 63162, 62714, 62228, 61705, 61145,
   60547, 59914, 59244, 58538, 57798, 57022, 56212, 55368,
   54491, 53581, 52639, 51665, 50660, 49624, 48559, 47464]

/-- Entries 96 to 127 of the default `SINE` ROM (20_memory.md R62). -/
def sineRows3 : List Int :=
  [
   46341, 45190, 44011, 42806, 41576, 40320, 39040, 37736,
   36410, 35062, 33692, 32303, 30893, 29466, 28020, 26558,
   25080, 23586, 22078, 20557, 19024, 17479, 15924, 14359,
   12785, 11204, 9616, 8022, 6424, 4821, 3216, 1608]

/-- Entries 128 to 159 of the default `SINE` ROM (20_memory.md R62). -/
def sineRows4 : List Int :=
  [
   0, -1608, -3216, -4821, -6424, -8022, -9616, -11204,
   -12785, -14359, -15924, -17479, -19024, -20557, -22078, -23586,
   -25080, -26558, -28020, -29466, -30893, -32303, -33692, -35062,
   -36410, -37736, -39040, -40320, -41576, -42806, -44011, -45190]

/-- Entries 160 to 191 of the default `SINE` ROM (20_memory.md R62). -/
def sineRows5 : List Int :=
  [
   -46341, -47464, -48559, -49624, -50660, -51665, -52639, -53581,
   -54491, -55368, -56212, -57022, -57798, -58538, -59244, -59914,
   -60547, -61145, -61705, -62228, -62714, -63162, -63572, -63944,
   -64277, -64571, -64827, -65043, -65220, -65358, -65457, -65516]

/-- Entries 192 to 223 of the default `SINE` ROM (20_memory.md R62). -/
def sineRows6 : List Int :=
  [
   -65536, -65516, -65457, -65358, -65220, -65043, -64827, -64571,
   -64277, -63944, -63572, -63162, -62714, -62228, -61705, -61145,
   -60547, -59914, -59244, -58538, -57798, -57022, -56212, -55368,
   -54491, -53581, -52639, -51665, -50660, -49624, -48559, -47464]

/-- Entries 224 to 255 of the default `SINE` ROM (20_memory.md R62). -/
def sineRows7 : List Int :=
  [
   -46341, -45190, -44011, -42806, -41576, -40320, -39040, -37736,
   -36410, -35062, -33692, -32303, -30893, -29466, -28020, -26558,
   -25080, -23586, -22078, -20557, -19024, -17479, -15924, -14359,
   -12785, -11204, -9616, -8022, -6424, -4821, -3216, -1608]

/-- The default `SINE` ROM: entry `i` is the integer nearest to `65536 * sin (2 * pi * i / 256)` (20_memory.md R62). -/
def sineRows : List Int :=
  sineRows0 ++ sineRows1 ++ sineRows2 ++ sineRows3 ++ sineRows4 ++ sineRows5 ++ sineRows6 ++ sineRows7

/-- An entry of the default `SINE` ROM. -/
def defaultSine (i : BitVec 8) : Int := sineRows.getD i.toNat 0

/-- The parameters the machine runs with: the spec's defaults. -/
def params : Params where
  expRate := defaultExpRate
  velExp := defaultVelExp
  prng := defaultPrng
  sine := defaultSine

end Sys2Proof.Machine
end

