-- ==== Sys2Proof/Machine/EnvelopeCommands.lean ====
section
/-! DEFINITION. Unit 1: `ENV.GATE` and `ENV.ADV`, 41_envelope.md. -/

namespace Sys2Proof.Machine

/-- `EnterSeg(ph, tgt, dur)`: the level is never touched (R111). -/
def enterSeg (ph : Phase) (tgt dur : Word) (e : Envelope) : Envelope :=
  { e with phase := ph, target := tgt, remain := dur }

/-- `Dur(phase)`; Sustain and Idle have no duration (10_state.md R30), and no rule asks for theirs. -/
def segDuration (e : Envelope) : Phase → Word
  | .attack => e.attackT
  | .decay => e.decayT
  | .release => e.releaseT
  | .sustain | .idle => 0#32

/-- The start of an Attack: target 2^31, the configured duration (R112). -/
def startAttack (e : Envelope) : Envelope := enterSeg .attack 0x80000000#32 e.attackT e

/-- `GateOn()` (R112). -/
def gateOn (e : Envelope) : Envelope :=
  match e.phase with
  | .idle => { startAttack { e with level := if e.legato then e.level else 0#32 } with gate := true }
  | .decay | .sustain | .release => { startAttack e with gate := true }
  | .attack => { e with gate := true }

/-- `GateOff()` (R113). -/
def gateOff (e : Envelope) : Envelope :=
  if e.gate then { enterSeg .release 0#32 e.releaseT e with gate := false } else e

/-- The phase change that the last step of a segment makes (R115). -/
def completeSegment (e : Envelope) : Envelope :=
  match e.phase with
  | .attack => enterSeg .decay e.sustain e.decayT e
  | .decay => { e with phase := .sustain }
  | .release => { e with phase := .idle }
  | .idle | .sustain => e

/-- One curve step of the running segment (R115, R116). -/
def segmentStep (P : Params) (e : Envelope) : Envelope :=
  let (lvl, rem, done) :=
    segStep P (unsignedOf e.level) (unsignedOf e.target) e.remain e.curve (segDuration e e.phase)
  let moved := { e with level := pattern32 lvl, remain := rem }
  if done then completeSegment moved else moved

/-- The envelope's tick: nothing moves in Idle and in Sustain (R115). -/
def envelopeAdvance (P : Params) (e : Envelope) : Envelope :=
  match e.phase with
  | .idle | .sustain => e
  | .attack | .decay | .release => segmentStep P e

/-- `ENV.GATE on` (R112, R113). -/
def execEnvGate (on : Bool) (s : State) : Result :=
  inMode .run s (respond 0#32 (s.setEnv (if on then gateOn s.env else gateOff s.env)))

/-- `ENV.ADV` for any parameters (R115). -/
def execEnvAdvWith (P : Params) (s : State) : Result :=
  inMode .run s (respond 0#32 (s.setEnv (envelopeAdvance P s.env)))

/-- `ENV.ADV` (R115). -/
def execEnvAdv (s : State) : Result := execEnvAdvWith params s

end Sys2Proof.Machine
end

