-- ==== Sys2Proof/Machine/LfoCommands.lean ====
section
/-! DEFINITION. Unit 2: `LFO.SETF`, `LFO.ADV`, `LFO.SYNC` and the waveform evaluation, 42_lfo.md. -/

namespace Sys2Proof.Machine

/-- `PhaseInc()`, in units of 2^-32 cycle (R133). -/
def phaseInc (freq period : Word) : Nat := freq.toNat * period.toNat / 2 ^ 16

/-- The phase before it is reduced modulo one cycle (R134). -/
def phaseSum (l : Lfo) (period : Word) : Nat := l.phase.toNat + phaseInc l.freq period

/-- The LFO's tick: the phase moves, and a wrap draws one value (R134, R135). -/
def lfoAdvance (P : Params) (period : Word) (l : Lfo) : Lfo :=
  let moved := { l with phase := BitVec.ofNat 32 (phaseSum l period) }
  if 2 ^ 32 ≤ phaseSum l period then
    { moved with rng := P.prng l.rng, hold := (P.prng l.rng).extractLsb' 15 17 }
  else moved

/-- The triangle of the quarter-cycle count `q` in 0..262143 (R138). -/
def triangleWave (q : Nat) : Int :=
  if q < 65536 then (q : Int) else if q < 196608 then 131072 - (q : Int) else (q : Int) - 262144

/-- `Wave()` (R138). -/
def waveSample (P : Params) (l : Lfo) : Int :=
  match l.wave with
  | .sine => P.sine (l.phase.extractLsb' 24 8)
  | .triangle => triangleWave (l.phase.extractLsb' 14 18).toNat
  | .square => if l.phase.toNat < l.duty.toNat then 65536 else -65536
  | .saw => ((l.phase.extractLsb' 15 17).toNat : Int) - 65536
  | .sampleHold => l.hold.toInt

/-- `LfoOut()` (R139). -/
def lfoOut (P : Params) (l : Lfo) : Int := sat32 (mulq (waveSample P l) (fxOf l.amp) + fxOf l.offset)

/-- `LFO.SETF value` (R132). -/
def execLfoSetf (value : Word) (s : State) : Result :=
  inMode .run s (respond 0#32 (s.setLfo { s.lfo with freq := value }))

/-- `LFO.ADV` for any parameters (R134). -/
def execLfoAdvWith (P : Params) (s : State) : Result :=
  inMode .run s (respond 0#32 (s.setLfo (lfoAdvance P s.sys.tickPeriod s.lfo)))

/-- `LFO.ADV` (R134). -/
def execLfoAdv (s : State) : Result := execLfoAdvWith params s

/-- `LFO.SYNC` (R140). -/
def execLfoSync (s : State) : Result := inMode .run s (respond 0#32 (s.setLfo { s.lfo with phase := 0#32 }))

end Sys2Proof.Machine
end

