-- ==== Sys2Proof/Machine/MapperCommands.lean ====
section
/-! DEFINITION. Unit 3: `MAP.NOTEON`, `MAP.NOTEOFF`, `MAP.BEND`, `MAP.ADV` and the output functions,
43_midi_to_cv.md. -/

namespace Sys2Proof.Machine

/-- `BendCv(b)` (R156). -/
def bendCv (m : Mapper) (b : Int) : Int := sat32 (fdiv (fxOf m.scale * (m.bendRange.toNat : Int) * b) 98304)

/-- `PitchOut()` (R165). -/
def pitchOut (m : Mapper) : Int := sat32 (fdiv m.acc.toInt (2 ^ 16) + bendCv m m.bend.toInt)

/-- `VelCurve(v)` (R158). -/
def velCurve (P : Params) (m : Mapper) (mem : Memory) (v : Nat) : Word :=
  match m.velCurve with
  | .linear => pattern32 (fdiv ((v : Int) * 2 ^ 31) 127)
  | .exponential => pattern32 (P.velExp v)
  | .table => memRead mem .vlut v

/-- The mapper after an accepted note-on with a nonzero velocity (R152). -/
def noteOn (P : Params) (mem : Memory) (note vel : Nat) (m : Mapper) : Mapper :=
  let struck :=
    { m with
      note := BitVec.ofNat 7 note
      target := pattern32 (noteTarget m mem note)
      velCv := velCurve P m mem vel }
  if m.glideEn then { struck with slewRemain := m.glideT }
  else { struck with acc := pattern48 (noteTarget m mem note * 2 ^ 16), slewRemain := 0#32 }

/-- The mapper's tick: one curve step of the accumulator toward the target (R163). -/
def mapperAdvance (P : Params) (m : Mapper) : Mapper :=
  let (acc, rem, _) := segStep P m.acc.toInt (fxOf m.target * 2 ^ 16) m.slewRemain m.glideCurve m.glideT
  { m with acc := pattern48 acc, slewRemain := rem }

/-- `MAP.NOTEON note, vel` for any parameters (R152, R153). -/
def execMapNoteonWith (P : Params) (note vel : BitVec 8) (s : State) : Result :=
  inMode .run s
    (if eventNumber note > 127 then raiseRange .note s
     else if eventNumber vel > 127 then raiseRange .velocity s
     else if eventNumber vel = 0 then respond 0#32 s
     else respond 0#32 (s.setMap (noteOn P s.mem (eventNumber note) (eventNumber vel) s.map)))

/-- `MAP.NOTEON note, vel` (R152, R153). -/
def execMapNoteon (note vel : BitVec 8) (s : State) : Result := execMapNoteonWith params note vel s

/-- `MAP.ADV` for any parameters (R163). -/
def execMapAdvWith (P : Params) (s : State) : Result :=
  inMode .run s (respond 0#32 (s.setMap (mapperAdvance P s.map)))

/-- `MAP.ADV` (R163). -/
def execMapAdv (s : State) : Result := execMapAdvWith params s

/-- `MAP.NOTEOFF note`: the note is range checked and nothing changes (R160). -/
def execMapNoteoff (note : BitVec 8) (s : State) : Result :=
  inMode .run s (if eventNumber note > 127 then raiseRange .note s else respond 0#32 s)

/-- `MAP.BEND bend` (R161). -/
def execMapBend (bend : BitVec 16) (s : State) : Result :=
  inMode .run s
    (if bendNumber bend < -8192 ∨ bendNumber bend > 8191 then raiseRange .bend s
     else respond 0#32 (s.setMap { s.map with bend := BitVec.ofInt 14 (bendNumber bend) }))

end Sys2Proof.Machine
end

