-- ==== Sys2Proof/Machine/RegisterAccess.lean ====
section
/-! DEFINITION. `WRCFG`, `RDREG` and the table window, 44_register_access.md. -/

namespace Sys2Proof.Machine

/-- `Legal(r, v)` (R176, R177). -/
def regLegal (x : Reg) (v : Word) (s : State) : Bool :=
  match x with
  | .envSustain => decide (v.toNat ≤ unitOne)
  | .lfoCtrl => (waveOfCode (v.extractLsb' 0 3)).isSome
  | .mapCtrl => (velCurveOfCode (v.extractLsb' 0 2)).isSome
  | .tabData => decide (s.tab.sel = .trim ∨ v.toNat ≤ unitOne)
  | _ => true

/-- `x[LFO_CTRL] <- v`; a reserved waveform code, which `Legal` has refused, would change nothing. -/
def writeLfoCtrl (v : Word) (l : Lfo) : Lfo :=
  match waveOfCode (v.extractLsb' 0 3) with
  | some w => { l with wave := w }
  | none => l

/-- `x[MAP_CTRL] <- v`; a reserved velocity curve code, which `Legal` has refused, would change nothing. -/
def writeMapCtrl (v : Word) (m : Mapper) : Mapper :=
  match velCurveOfCode (v.extractLsb' 0 2) with
  | some c => { m with velCurve := c, glideEn := v.getLsbD 2, glideCurve := curveOfBit (v.getLsbD 3) }
  | none => m

/-- `TabWrite(v)` (R177). -/
def tabWrite (v : Word) (s : State) : State := s.setMem (memWrite s.mem s.tab.sel s.tab.idx.toNat v)

/-- `x[r] <- v` for the registers `WRCFG` may write, and `TabWrite` for the window (R176). A register it may not write is
left alone: `execWrcfg` has refused it. -/
def writeReg (x : Reg) (v : Word) (s : State) : State :=
  match x with
  | .tickPeriod => s.setSys { s.sys with tickPeriod := v }
  | .envCtrl => s.setEnv { s.env with curve := curveOfBit (v.getLsbD 0), legato := v.getLsbD 1 }
  | .envAttackT => s.setEnv { s.env with attackT := v }
  | .envDecayT => s.setEnv { s.env with decayT := v }
  | .envSustain => s.setEnv { s.env with sustain := v }
  | .envReleaseT => s.setEnv { s.env with releaseT := v }
  | .lfoCtrl => s.setLfo (writeLfoCtrl v s.lfo)
  | .lfoFreq => s.setLfo { s.lfo with freq := v }
  | .lfoAmp => s.setLfo { s.lfo with amp := v }
  | .lfoOffset => s.setLfo { s.lfo with offset := v }
  | .lfoDuty => s.setLfo { s.lfo with duty := v }
  | .lfoSeed => s.setLfo { s.lfo with seed := v }
  | .mapCtrl => s.setMap (writeMapCtrl v s.map)
  | .mapScale => s.setMap { s.map with scale := v }
  | .mapZeroNote => s.setMap { s.map with zeroNote := v.extractLsb' 0 7 }
  | .mapBendRange => s.setMap { s.map with bendRange := v.extractLsb' 0 8 }
  | .mapGlideT => s.setMap { s.map with glideT := v }
  | .tabAddr => s.setTab { sel := selOfBit (v.getLsbD 8), idx := v.extractLsb' 0 7 }
  | .tabData => tabWrite v s
  | .id | .status | .tickCount | .elapsedS | .elapsedFrac | .envState | .envLevel | .envTarget | .envRemain
  | .lfoPhase | .lfoHold | .lfoRng | .lfoValue | .mapNote | .mapBend | .mapTarget | .mapSlewRemain | .mapNoteCv
  | .mapNoteFrac | .mapPitchCv | .mapVelCv => s

/-- The elapsed time in units of 2^-32 second: count times period (10_state.md R28). -/
def elapsed (u : SystemUnit) : Nat := u.tickCount.toNat * u.tickPeriod.toNat

/-- `TabRead()` (R179). -/
def tabRead (s : State) : Word := memRead s.mem s.tab.sel s.tab.idx.toNat

/-- `Pattern32(ReadValue(r))` (R178). -/
def readReg (P : Params) (x : Reg) (s : State) : Word :=
  match x with
  | .id => 0x4D474531#32
  | .status => statusWord s.sys
  | .tickPeriod => s.sys.tickPeriod
  | .tickCount => s.sys.tickCount
  | .elapsedS => BitVec.ofNat 32 (elapsed s.sys / 2 ^ 32)
  | .elapsedFrac => BitVec.ofNat 32 (elapsed s.sys)
  | .envCtrl => envCtrlWord s.env
  | .envAttackT => s.env.attackT
  | .envDecayT => s.env.decayT
  | .envSustain => s.env.sustain
  | .envReleaseT => s.env.releaseT
  | .envState => envStateWord s.env
  | .envLevel => s.env.level
  | .envTarget => s.env.target
  | .envRemain => s.env.remain
  | .lfoCtrl => lfoCtrlWord s.lfo
  | .lfoFreq => s.lfo.freq
  | .lfoAmp => s.lfo.amp
  | .lfoOffset => s.lfo.offset
  | .lfoDuty => s.lfo.duty
  | .lfoSeed => s.lfo.seed
  | .lfoPhase => s.lfo.phase
  | .lfoHold => s.lfo.hold.signExtend 32
  | .lfoRng => s.lfo.rng
  | .lfoValue => pattern32 (lfoOut P s.lfo)
  | .mapCtrl => mapCtrlWord s.map
  | .mapScale => s.map.scale
  | .mapZeroNote => s.map.zeroNote.setWidth 32
  | .mapBendRange => s.map.bendRange.setWidth 32
  | .mapGlideT => s.map.glideT
  | .tabAddr => tabAddrWord s.tab
  | .tabData => tabRead s
  | .mapNote => s.map.note.setWidth 32
  | .mapBend => s.map.bend.signExtend 32
  | .mapTarget => s.map.target
  | .mapSlewRemain => s.map.slewRemain
  | .mapNoteCv => s.map.acc.extractLsb' 16 32
  | .mapNoteFrac => (s.map.acc.extractLsb' 0 16).setWidth 32
  | .mapPitchCv => pattern32 (pitchOut s.map)
  | .mapVelCv => s.map.velCv

/-- `WRCFG` of a register in use, after the word-level checks: the mode check, the value check, the write (R176). -/
def wrcfgReg (x : Reg) (value : Word) (s : State) : Result :=
  if x ≠ .tabAddr ∧ s.sys.mode ≠ .config then raiseMode s
  else if regLegal x value s then respond 0#32 (writeReg x value s)
  else raiseIllegal .valueNotLegal s

/-- `WRCFG r, value`, with the checks of 30_encoding.md R87 in their order (R176). -/
def execWrcfg (r : BitVec 6) (value : Word) (s : State) : Result :=
  match regOfNumber r with
  | none => raiseIllegal .registerNotInUse s
  | some x =>
    if !regWritable x then raiseIllegal .registerNotWritable s
    else if value &&& regMbz x ≠ 0#32 then raiseIllegal .mustBeZero s
    else wrcfgReg x value s

/-- `RDREG r` for any parameters: no mode check, and nothing changes (R178). -/
def execRdregWith (P : Params) (r : BitVec 6) (s : State) : Result :=
  match regOfNumber r with
  | none => raiseIllegal .registerNotInUse s
  | some x => respond (readReg P x s) s

/-- `RDREG r` (R178). -/
def execRdreg (r : BitVec 6) (s : State) : Result := execRdregWith params r s

end Sys2Proof.Machine
end

