-- ==== Sys2Proof/Machine/SystemCommands.lean ====
section
/-! DEFINITION. Unit 0: construction (`INIT`) and the Tick Clock (`TICK`), 40_clock_and_lifecycle.md. -/

namespace Sys2Proof.Machine

/-- Cause bit 2, TRIM_NONMONO: `NoteTarget` decreases somewhere (R103). -/
def trimNonMonotone (m : Mapper) (mem : Memory) : Bool :=
  (List.range 127).any fun n => decide (noteTarget m mem n > noteTarget m mem (n + 1))

/-- `ConfigCheck()`: bit 0 PERIOD_ZERO, bit 1 SCALE_NONPOS, bit 2 TRIM_NONMONO (R103). -/
def configCheck (s : State) : BitVec 3 :=
  BitVec.ofBool (trimNonMonotone s.map s.mem) ++ BitVec.ofBool (decide (fxOf s.map.scale ≤ 0)) ++
    BitVec.ofBool (decide (s.sys.tickPeriod = 0#32))

/-- The envelope after `RunInit()` (R104). -/
def runInitEnvelope (e : Envelope) : Envelope :=
  { e with phase := .idle, gate := false, level := 0#32, target := 0#32, remain := 0#32 }

/-- The LFO after `RunInit()` (R104). -/
def runInitLfo (l : Lfo) : Lfo := { l with phase := 0#32, hold := 0#17, rng := l.seed }

/-- The mapper after `RunInit()` (R104). -/
def runInitMapper (m : Mapper) (mem : Memory) : Mapper :=
  { m with
    note := m.zeroNote
    bend := 0#14
    target := pattern32 (noteTarget m mem m.zeroNote.toNat)
    acc := pattern48 (noteTarget m mem m.zeroNote.toNat * 2 ^ 16)
    slewRemain := 0#32
    velCv := 0#32 }

/-- The block after a successful construction: `RunInit()`, then mode RUN (R102, R104). -/
def construct (s : State) : State :=
  (((s.setSys { s.sys with mode := .run, tickCount := 0#32 }).setEnv (runInitEnvelope s.env)).setLfo
    (runInitLfo s.lfo)).setMap (runInitMapper s.map s.mem)

/-- The block after a failed construction: only `STATUS` changes (R102). -/
def failConstruction (mask : BitVec 3) (s : State) : State :=
  s.setSys { s.sys with mode := .failed, cfgCause := mask }

/-- `INIT` (R102). -/
def execInit (s : State) : Result :=
  inMode .config s
    (if configCheck s = 0#3 then respond 0#32 (construct s)
     else raiseConfiguration (configCheck s) (failConstruction (configCheck s) s))

/-- `TICK` (R105). -/
def execTick (s : State) : Result :=
  inMode .run s (respond 0#32 (s.setSys { s.sys with tickCount := s.sys.tickCount + 1#32 }))

end Sys2Proof.Machine
end

