-- ==== Sys2Proof/Machine/Dispatch.lean ====
section
/-! DEFINITION. What each command does: one arm per command. -/

namespace Sys2Proof.Machine

def exec (i : Instr) (s : State) : Host.Outcome State Fault Refusal :=
  match i with
  | .init => Sys2Proof.Machine.execInit s
  | .tick => Sys2Proof.Machine.execTick s
  | .envGate on => Sys2Proof.Machine.execEnvGate on s
  | .envAdv => Sys2Proof.Machine.execEnvAdv s
  | .lfoSetf value => Sys2Proof.Machine.execLfoSetf value s
  | .lfoAdv => Sys2Proof.Machine.execLfoAdv s
  | .lfoSync => Sys2Proof.Machine.execLfoSync s
  | .mapNoteon note vel => Sys2Proof.Machine.execMapNoteon note vel s
  | .mapAdv => Sys2Proof.Machine.execMapAdv s
  | .mapNoteoff note => Sys2Proof.Machine.execMapNoteoff note s
  | .mapBend bend => Sys2Proof.Machine.execMapBend bend s
  | .wrcfg r value => Sys2Proof.Machine.execWrcfg r value s
  | .rdreg r => Sys2Proof.Machine.execRdreg r s

end Sys2Proof.Machine
end

