-- ==== Sys2Proof/Machine/Step.lean ====
section
/-! DEFINITION. One step of the machine: the next input from the host is taken and performed (00_scope.md R10). -/

namespace Sys2Proof.Machine

/-- A command word: performed if it decodes, else answered `ILLEGAL` with nothing changed (30_encoding.md R86, R87). -/
def performWord (w : CommandWord) (s : State) : Host.Outcome State Fault Refusal :=
  match decode w with
  | .ok i => exec i s
  | .error cause => raiseIllegal cause s

/-- One step. With no input waiting the block does nothing (60_exceptions.md R202); the reset input falls between two
commands (70_reset_and_hazards.md R210). -/
def step (s : State) : Host.Outcome State Fault Refusal :=
  match fetchInput s with
  | none => .next s
  | some (.reset, s') => .next (takeReset s')
  | some (.command w, s') => performWord w s'

/-- The state with the command word of `w` first among the waiting inputs, where `step` takes its next command: the host
has sent that command (log entry 4). -/
def State.withFetchWord (s : State) (nbits w : Nat) : State :=
  s.setInbox (.command (BitVec.ofNat 40 (w % 2 ^ nbits)) :: s.inbox)

end Sys2Proof.Machine
end

