-- ==== Sys2Proof/Machine/Parametric.lean ====
section
/-! DEFINITION. The command set for any value of the four model parameters (00_scope.md R5): a model "should take" them
"as an argument (with the default given)". `exec` is this at the defaults. -/

namespace Sys2Proof.Machine

/-- What each command does under the parameters `P`. -/
def execWith (P : Params) (i : Instr) (s : State) : Result :=
  match i with
  | .init => execInit s
  | .tick => execTick s
  | .envGate on => execEnvGate on s
  | .envAdv => execEnvAdvWith P s
  | .lfoSetf value => execLfoSetf value s
  | .lfoAdv => execLfoAdvWith P s
  | .lfoSync => execLfoSync s
  | .mapNoteon note vel => execMapNoteonWith P note vel s
  | .mapAdv => execMapAdvWith P s
  | .mapNoteoff note => execMapNoteoff note s
  | .mapBend bend => execMapBend bend s
  | .wrcfg r value => execWrcfg r value s
  | .rdreg r => execRdregWith P r s

end Sys2Proof.Machine
end

