-- ==== Sys2Proof/Safety.lean ====
section
/-! DEFINITION. What counts as a safe run: the invariants the spec states of the state (10_state.md R25, R36, R57;
60_exceptions.md R196), and the runs that claims speak of. -/

namespace Sys2Proof.Machine

/-- The envelope invariants 1 to 6 of 10_state.md R36, and the range of ENV_SUSTAIN (R31). -/
structure EnvelopeInv (e : Envelope) : Prop where
  level_le : e.level.toNat ≤ unitOne
  target_le : e.target.toNat ≤ unitOne
  sustain_le : e.sustain.toNat ≤ unitOne
  gate_iff : e.gate = true ↔ e.phase = .attack ∨ e.phase = .decay ∨ e.phase = .sustain
  idle : e.phase = .idle → e.level = 0#32 ∧ e.target = 0#32 ∧ e.remain = 0#32
  attack : e.phase = .attack → e.target = 0x80000000#32 ∧ e.remain.toNat ≤ e.attackT.toNat
  decay : e.phase = .decay → e.target = e.sustain ∧ e.remain.toNat ≤ e.decayT.toNat
  sustained : e.phase = .sustain → e.level = e.sustain ∧ e.target = e.sustain ∧ e.remain = 0#32
  release : e.phase = .release → e.target = 0#32 ∧ e.remain.toNat ≤ e.releaseT.toNat

/-- The mapper invariants of 10_state.md R57. -/
structure MapperInv (s : State) : Prop where
  velCv_le : s.map.velCv.toNat ≤ unitOne
  acc_le : s.map.acc.toInt ≤ (2 ^ 31 - 1) * 2 ^ 16
  remain_le : s.sys.mode = .run → s.map.slewRemain.toNat ≤ s.map.glideT.toNat
  target_eq : s.sys.mode = .run → fxOf s.map.target = noteTarget s.map s.mem s.map.note.toNat
  settled : s.sys.mode = .run → s.map.glideEn = false →
    s.map.acc.toInt = fxOf s.map.target * 2 ^ 16 ∧ s.map.slewRemain = 0#32

/-- The construction checks of 40_clock_and_lifecycle.md R103, passed. -/
structure Constructible (s : State) : Prop where
  period_pos : s.sys.tickPeriod ≠ 0#32
  scale_pos : 0 < fxOf s.map.scale
  target_mono : ∀ n < 127, noteTarget s.map s.mem n ≤ noteTarget s.map s.mem (n + 1)

/-- Every run-time register holds its reset value (60_exceptions.md R196: in CONFIG, and after a failed INIT, which
changes nothing but STATUS). -/
structure RunTimeAtReset (s : State) : Prop where
  tickCount : s.sys.tickCount = 0#32
  phase : s.env.phase = .idle
  gate : s.env.gate = false
  level : s.env.level = 0#32
  target : s.env.target = 0#32
  remain : s.env.remain = 0#32
  lfoPhase : s.lfo.phase = 0#32
  hold : s.lfo.hold = 0#17
  rng : s.lfo.rng = 0#32
  note : s.map.note = 0#7
  bend : s.map.bend = 0#14
  mapTarget : s.map.target = 0#32
  slewRemain : s.map.slewRemain = 0#32
  acc : s.map.acc = 0#48
  velCv : s.map.velCv = 0#32

/-- The invariant of the machine. -/
structure Inv (s : State) : Prop where
  memory : s.mem.wf = true
  /-- 20_memory.md R64. -/
  vlut_le : ∀ i, (memRead s.mem .vlut i).toNat ≤ unitOne
  envelope : EnvelopeInv s.env
  mapper : MapperInv s
  /-- 10_state.md R25. -/
  cause_iff : s.sys.cfgCause ≠ 0#3 ↔ s.sys.mode = .failed
  /-- 60_exceptions.md R196. -/
  fresh : s.sys.mode ≠ .run → RunTimeAtReset s
  /-- 10_state.md R26, R46; 43_midi_to_cv.md R157. -/
  valid : s.sys.mode = .run → Constructible s

/-- The commands of a list performed in order, each on the state the one before it left. -/
def runCommands : List Instr → State → Result
  | [], s => .next s
  | i :: rest, s =>
    match exec i s with
    | .next t => runCommands rest t
    | .fault r => .fault r
    | .refused r => .refused r

/-- The commands that only RUN mode performs (60_exceptions.md R196, second row). -/
def operational : Instr → Bool
  | .init => false
  | .tick => true
  | .envGate _ => true
  | .envAdv => true
  | .lfoSetf _ => true
  | .lfoAdv => true
  | .lfoSync => true
  | .mapNoteon _ _ => true
  | .mapAdv => true
  | .mapNoteoff _ => true
  | .mapBend _ => true
  | .wrcfg _ _ => false
  | .rdreg _ => false

/-- The registers a command may change: the table of 10_state.md R56. `ACC` is the pair MAP_NOTE_CV and MAP_NOTE_FRAC. -/
def mayChange : Instr → List Reg
  | .init =>
    [.status, .tickCount, .envState, .envLevel, .envTarget, .envRemain, .lfoPhase, .lfoHold, .lfoRng, .mapNote, .mapBend,
     .mapTarget, .mapSlewRemain, .mapNoteCv, .mapNoteFrac, .mapVelCv]
  | .tick => [.tickCount]
  | .envGate _ => [.envState, .envLevel, .envTarget, .envRemain]
  | .envAdv => [.envState, .envLevel, .envTarget, .envRemain]
  | .lfoSetf _ => [.lfoFreq]
  | .lfoAdv => [.lfoPhase, .lfoRng, .lfoHold]
  | .lfoSync => [.lfoPhase]
  | .mapNoteon _ _ => [.mapNote, .mapTarget, .mapVelCv, .mapSlewRemain, .mapNoteCv, .mapNoteFrac]
  | .mapAdv => [.mapNoteCv, .mapNoteFrac, .mapSlewRemain]
  | .mapNoteoff _ => []
  | .mapBend _ => [.mapBend]
  | .wrcfg r _ => (regOfNumber r).toList.filter fun x => regClass x = .cfg ∨ regClass x = .cfgF ∨ regClass x = .ptr
  | .rdreg _ => []

/-- `n` steps of one segment (00_scope.md R9), from `rem` remaining ticks: value, remaining count, and whether the last
of them completed the segment. -/
def segSteps (P : Params) (cur tgt : Int) (rem : Word) (curve : Curve) (dur : Word) : Nat → Int × Word × Bool
  | 0 => (cur, rem, false)
  | n + 1 =>
    let before := segSteps P cur tgt rem curve dur n
    segStep P before.1 tgt before.2.1 curve dur

/-- The state with a response at the port. -/
def answered (s : State) (status : Status) (data : Word) : State := s.setResponse (some { status, data })

end Sys2Proof.Machine
end

