-- ==== Sys2Proof/Certificates/Slice0/Obligations.lean ====
section
/-! DEFINITION. The statements about the model: what each command does and leaves alone, the invariants of
10_state.md, decoding, and the machine-wide rules. `answered s status data` is `s` with that response at the port. -/

open Sys2Proof Sys2Proof.Machine

/-! ### The port: decoding, one step, reset -/

/-- 30_encoding.md R84, R83, R85: no bit of an encoding is dropped, for every command and every operand. -/
def Obligations.DecodeOfEncodeIsTheCommand : Prop := ∀ i : Instr, decode (encode i) = .ok i

/-- 30_encoding.md R84: the decoder accepts exactly the words that match a row, and reads that row's command. -/
def Obligations.DecodeFollowsTheOpcodeTable : Prop :=
  (∀ w i, decode w = .ok i → encode i = w ∧ w &&& (opcodeRow i).2 = (opcodeRow i).1) ∧
  ∀ w i, w &&& (opcodeRow i).2 = (opcodeRow i).1 → ∃ j, decode w = .ok j ∧ opcodeRow j = opcodeRow i

/-- 30_encoding.md R88: the spec's example lines. -/
def Obligations.SpecExampleWordsDecode : Prop :=
  decode 0x1000000001#40 = .ok (.envGate true) ∧ decode 0x3000006448#40 = .ok (.mapNoteon 72#8 100#8) ∧
  decode 0x330000E000#40 = .ok (.mapBend 0xE000#16) ∧ bendNumber 0xE000#16 = -8192 ∧
  decode 0x510000000A#40 = .ok (.wrcfg 0x11#6 10#32) ∧ decode 0x9900000000#40 = .ok (.rdreg 0x19#6)

/-- 30_encoding.md R86, cause 1: which opcodes are reserved, whatever the operand. -/
def Obligations.ReservedOpcodesAreExactlyThese : Prop :=
  ∀ (opc : BitVec 8) (op : Word),
    decode (opc ++ op) = .error .reservedOpcode ↔
      (0xC0 ≤ opc.toNat ∨ (0x02 ≤ opc.toNat ∧ opc.toNat ≤ 0x0F) ∨ (0x12 ≤ opc.toNat ∧ opc.toNat ≤ 0x1F) ∨
        (0x23 ≤ opc.toNat ∧ opc.toNat ≤ 0x2F) ∨ (0x34 ≤ opc.toNat ∧ opc.toNat ≤ 0x3F))

/-- 30_encoding.md R83, R86 cause 2 and R87: which operand bits of each format must be zero; of a register read the
register number is looked at first. -/
def Obligations.MustBeZeroBitsPerFormat : Prop :=
  (∀ opc ∈ [0x00#8, 0x01#8, 0x11#8, 0x21#8, 0x22#8, 0x31#8], ∀ op : Word,
    decode (opc ++ op) = .error .mustBeZero ↔ op ≠ 0#32) ∧
  (∀ op : Word, decode (0x10#8 ++ op) = .error .mustBeZero ↔ 1 < op.toNat) ∧
  (∀ op : Word, ∃ i, decode (0x20#8 ++ op) = .ok i) ∧
  (∀ opc ∈ [0x30#8, 0x33#8], ∀ op : Word, decode (opc ++ op) = .error .mustBeZero ↔ 0xFFFF < op.toNat) ∧
  (∀ op : Word, decode (0x32#8 ++ op) = .error .mustBeZero ↔ 0xFF < op.toNat) ∧
  ∀ (r : BitVec 6) (op : Word), op ≠ 0#32 →
    (regInUse r = true → decode (2#2 ++ r ++ op) = .error .mustBeZero) ∧
    (regInUse r = false → decode (2#2 ++ r ++ op) = .error .registerNotInUse)

/-- A step performs the decoded command on the state with the word taken from the waiting inputs. The waiting inputs are
the model's own (log entry 1); 00_scope.md R10. -/
def Obligations.StepPerformsTheDecodedCommand : Prop :=
  ∀ (s : State) (w : CommandWord) (i : Instr) (rest : List Input),
    s.inbox = .command w :: rest → decode w = .ok i → step s = exec i { s with inbox := rest }

/-- 30_encoding.md R86: a word that does not decode is answered `ILLEGAL` with the cause, and changes nothing else. The
waiting inputs are the model's own (log entry 1). -/
def Obligations.StepAnswersUndecodableWordIllegal : Prop :=
  ∀ (s : State) (w : CommandWord) (c : IllegalCause) (rest : List Input),
    s.inbox = .command w :: rest → decode w = .error c →
      step s = .next (answered { s with inbox := rest } .illegal
        (match c with
          | .reservedOpcode => 1#32
          | .mustBeZero => 2#32
          | .registerNotInUse => 3#32
          | .registerNotWritable => 4#32
          | .valueNotLegal => 5#32))

/-- 70_reset_and_hazards.md R210 and 60_exceptions.md R202: the reset input gives the reset state from any state and no
response, and with no input the block does nothing. The waiting inputs, the response field, the step with no input and what
a reset leaves waiting are the model's own (log entries 1, 2, 4 and 5). -/
def Obligations.StepTakesResetAndIdles : Prop :=
  (∀ (s : State) (rest : List Input), s.inbox = .reset :: rest → step s = .next { State.reset with inbox := rest }) ∧
  ∀ s : State, s.inbox = [] → step s = .next s

/-- 10_state.md R55, whole: the reset value of every register and every table entry, and that the reset configuration is
not constructible. -/
def Obligations.ResetRegisterValues : Prop :=
  (∀ (P : Params) (x : Reg), readReg P x State.reset =
    if x = .id then 0x4D474531#32 else if x = .lfoDuty then 0x80000000#32 else 0#32) ∧
  (∀ (space : TableSel) (i : Nat), memRead State.reset.mem space i = 0#32) ∧
  exec .init State.reset = .next (answered { State.reset with sys := { State.reset.sys with mode := .failed, cfgCause := 3#3 } }
    .configurationError 3#32)

/-- 30_encoding.md R81: every command word, in every state, gets exactly one response, and the inputs still waiting are
untouched. The response field is the model's own (log entry 2). -/
def Obligations.EveryWordIsAnswered : Prop :=
  ∀ (w : CommandWord) (s : State), ∃ t r, performWord w s = .next t ∧ t.response = some r ∧ t.inbox = s.inbox

/-- 20_memory.md R65 and 60_exceptions.md R186: a command is carried as five bytes and a response as five bytes, each most
significant first, the response's first byte being its status code; and the word is read back from the five bytes of a
command. -/
def Obligations.CommandTransportRoundTrip : Prop :=
  (∀ (w : CommandWord) (rest : List Byte), commandOfBytes (commandBytes w ++ rest) = some (w, rest)) ∧
  (∀ w : CommandWord, ∃ opc b3 b2 b1 b0 : Byte, commandBytes w = [opc, b3, b2, b1, b0] ∧ opc = opcodeField w ∧
    w.toNat = opc.toNat * 2 ^ 32 + b3.toNat * 2 ^ 24 + b2.toNat * 2 ^ 16 + b1.toNat * 2 ^ 8 + b0.toNat) ∧
  ∀ r : Response,
    (responseWord r).toNat = (match r.status with
      | .ok => 0
      | .valueOutOfRange => 1
      | .configurationError => 2
      | .modeError => 3
      | .illegal => 4) * 2 ^ 32 + r.data.toNat ∧
    ∃ st b3 b2 b1 b0 : Byte, responseBytes (responseWord r) = [st, b3, b2, b1, b0] ∧
      (responseWord r).toNat =
        st.toNat * 2 ^ 32 + b3.toNat * 2 ^ 24 + b2.toNat * 2 ^ 16 + b1.toNat * 2 ^ 8 + b0.toNat

/-! ### The parameters -/

/-- 00_scope.md R8, 43_midi_to_cv.md R158, 20_memory.md R62: the default parameters meet what a model may assume of any
parameters. That the machine runs at the defaults is log entry 3. -/
def Obligations.DefaultParametersAreLegal : Prop := params.Legal

/-- 00_scope.md R8: the default exponential rate is the least representable rate with `(1 - k)^D ≤ 1/100`. That the machine
runs at it is log entry 3. -/
def Obligations.DefaultExpRateIsTheLeastRate : Prop :=
  params.expRate 0#32 = 2 ^ 32 ∧
  ∀ D : Word, D ≠ 0#32 → ∃ r ≤ 2 ^ 32, params.expRate D = 2 ^ 32 - r ∧ 100 * r ^ D.toNat ≤ 2 ^ (32 * D.toNat) ∧
    ∀ r' ≤ 2 ^ 32, 100 * r' ^ D.toNat ≤ 2 ^ (32 * D.toNat) → r' ≤ r

/-- `exec` is the parametric command set at the default parameters (log entry 3; 00_scope.md R5). -/
def Obligations.ExecIsTheParametricExecAtDefaults : Prop := ∀ i s, exec i s = execWith params i s

/-! ### System unit -/

/-- 40_clock_and_lifecycle.md R102, R103 and R104, whole: the three checks, each on its own; a construction that passes them
all; one that fails any, which latches its causes in `STATUS`, reports them and changes nothing else; and the refusals. -/
def Obligations.InitConstructsOrLatchesItsCauses : Prop :=
  (∀ (s : State) (mask : BitVec 3), s.sys.mode = .config →
    (mask.getLsbD 0 = true ↔ s.sys.tickPeriod = 0#32) →
    (mask.getLsbD 1 = true ↔ fxOf s.map.scale ≤ 0) →
    (mask.getLsbD 2 = true ↔ ∃ n < 127, noteTarget s.map s.mem n > noteTarget s.map s.mem (n + 1)) →
    (mask = 0#3 →
      noteTarget s.map s.mem s.map.zeroNote.toNat = fxOf (memRead s.mem .trim s.map.zeroNote.toNat) ∧
      exec .init s = .next (answered
        { s with
          sys := { s.sys with mode := .run, tickCount := 0#32 }
          env := { s.env with phase := .idle, gate := false, level := 0#32, target := 0#32, remain := 0#32 }
          lfo := { s.lfo with phase := 0#32, hold := 0#17, rng := s.lfo.seed }
          map :=
            { s.map with
              note := s.map.zeroNote
              bend := 0#14
              target := memRead s.mem .trim s.map.zeroNote.toNat
              acc := memRead s.mem .trim s.map.zeroNote.toNat ++ 0#16
              slewRemain := 0#32
              velCv := 0#32 } } .ok 0#32)) ∧
    (mask ≠ 0#3 → exec .init s = .next (answered { s with sys := { s.sys with mode := .failed, cfgCause := mask } }
      .configurationError (mask.setWidth 32)))) ∧
  (∀ s : State, s.sys.mode ≠ .config →
    exec .init s = .next (answered s .modeError ((modeCode s.sys.mode).setWidth 32))) ∧
  (∀ s : State, performWord 0x0000000000#40 s = exec .init s) ∧
  ∀ (s : State) (op : Word), op ≠ 0#32 → performWord (0x00#8 ++ op) s = .next (answered s .illegal 2#32)

/-- 40_clock_and_lifecycle.md R105, whole: `TICK`, its refusals and its encoding. -/
def Obligations.TickCountsOneModulo : Prop :=
  (∀ s : State, s.sys.mode = .run → exec .tick s = .next (answered
    { s with sys := { s.sys with tickCount := BitVec.ofNat 32 ((s.sys.tickCount.toNat + 1) % 2 ^ 32) } } .ok 0#32)) ∧
  (∀ s : State, s.sys.mode ≠ .run →
    exec .tick s = .next (answered s .modeError ((modeCode s.sys.mode).setWidth 32))) ∧
  (∀ s : State, performWord 0x0100000000#40 s = exec .tick s) ∧
  ∀ (s : State) (op : Word), op ≠ 0#32 → performWord (0x01#8 ++ op) s = .next (answered s .illegal 2#32)

/-- 10_state.md R28: the elapsed registers show the two halves of the exact product of count and period. -/
def Obligations.ElapsedReadsTheExactProduct : Prop :=
  ∀ s : State, ∃ hi lo : Word,
    exec (.rdreg 0x04#6) s = .next (answered s .ok hi) ∧ exec (.rdreg 0x05#6) s = .next (answered s .ok lo) ∧
    hi.toNat * 2 ^ 32 + lo.toNat = s.sys.tickCount.toNat * s.sys.tickPeriod.toNat

/-! ### Envelope -/

/-- 00_scope.md R9: one curve step never passes the target, for every legal parameters and both curves. -/
def Obligations.SegStepNeverOvershoots : Prop :=
  ∀ P : Params, P.Legal → ∀ (cur tgt : Int) (rem : Word) (curve : Curve) (dur : Word),
    (cur ≤ tgt → cur ≤ (segStep P cur tgt rem curve dur).1 ∧ (segStep P cur tgt rem curve dur).1 ≤ tgt) ∧
    (tgt ≤ cur → tgt ≤ (segStep P cur tgt rem curve dur).1 ∧ (segStep P cur tgt rem curve dur).1 ≤ cur)

/-- 00_scope.md R9: a segment entered with `rem = D` completes on exactly the `max(D, 1)`-th step, at the target, whatever
the parameters. -/
def Obligations.SegmentCompletesExactlyAtItsDeadline : Prop :=
  ∀ (P : Params) (cur tgt : Int) (D : Word) (curve : Curve) (dur : Word),
    (∀ n, n < max D.toNat 1 → (segSteps P cur tgt D curve dur n).2.2 = false) ∧
    segSteps P cur tgt D curve dur (max D.toNat 1) = (tgt, 0#32, true)

/-- 41_envelope.md R112, whole: `ENV.GATE 1` in each phase, and the refusals and encodings of `ENV.GATE`. `ENV.GATE 0`, which R112
leaves to R113, is `GateOffReleasesOnlyAnOpenGate`. -/
def Obligations.GateOnStartsOrKeepsAttack : Prop :=
  (∀ s : State, s.sys.mode = .run → exec (.envGate true) s = .next (answered
    { s with env :=
      match s.env.phase with
      | .idle =>
        { s.env with
          phase := .attack, gate := true, target := 0x80000000#32, remain := s.env.attackT
          level := if s.env.legato then s.env.level else 0#32 }
      | .attack => { s.env with gate := true }
      | .decay | .sustain | .release =>
        { s.env with phase := .attack, gate := true, target := 0x80000000#32, remain := s.env.attackT } } .ok 0#32)) ∧
  (∀ (s : State) (on : Bool), s.sys.mode ≠ .run →
    exec (.envGate on) s = .next (answered s .modeError ((modeCode s.sys.mode).setWidth 32))) ∧
  (∀ s : State, performWord 0x1000000001#40 s = exec (.envGate true) s ∧
    performWord 0x1000000000#40 s = exec (.envGate false) s) ∧
  ∀ (s : State) (op : Word), 1 < op.toNat → performWord (0x10#8 ++ op) s = .next (answered s .illegal 2#32)

/-- 41_envelope.md R113: `ENV.GATE 0` enters Release from the current level when the gate was on, and does nothing when it
was off. -/
def Obligations.GateOffReleasesOnlyAnOpenGate : Prop :=
  (∀ s : State, s.sys.mode = .run → s.env.gate = true → exec (.envGate false) s = .next (answered
    { s with env := { s.env with phase := .release, gate := false, target := 0#32, remain := s.env.releaseT } } .ok 0#32)) ∧
  ∀ s : State, s.sys.mode = .run → s.env.gate = false → exec (.envGate false) s = .next (answered s .ok 0#32)

/-- 41_envelope.md R115, whole: `ENV.ADV` in each phase, between deadlines and at a deadline, its refusals and its
encoding. -/
def Obligations.EnvelopeAdvanceByPhase : Prop :=
  (∀ s : State, s.sys.mode = .run → (s.env.phase = .idle ∨ s.env.phase = .sustain) →
    exec .envAdv s = .next (answered s .ok 0#32)) ∧
  (∀ (s : State) (dur : Word), s.sys.mode = .run → 2 ≤ s.env.remain.toNat →
    ((s.env.phase = .attack ∧ dur = s.env.attackT) ∨ (s.env.phase = .decay ∧ dur = s.env.decayT) ∨
      (s.env.phase = .release ∧ dur = s.env.releaseT)) →
    exec .envAdv s = .next (answered
      { s with env :=
        { s.env with
          remain := BitVec.ofNat 32 (s.env.remain.toNat - 1)
          level := pattern32 (s.env.level.toNat +
            match s.env.curve with
            | .linear => tdiv ((s.env.target.toNat : Int) - s.env.level.toNat) s.env.remain.toNat
            | .exponential => mulrate ((s.env.target.toNat : Int) - s.env.level.toNat) (params.expRate dur)) } }
      .ok 0#32)) ∧
  (∀ s : State, s.sys.mode = .run → s.env.remain.toNat ≤ 1 →
    (s.env.phase = .attack → exec .envAdv s = .next (answered
      { s with env :=
        { s.env with level := s.env.target, phase := .decay, target := s.env.sustain, remain := s.env.decayT } }
      .ok 0#32)) ∧
    (s.env.phase = .decay → exec .envAdv s = .next (answered
      { s with env := { s.env with level := s.env.target, phase := .sustain, remain := 0#32 } } .ok 0#32)) ∧
    (s.env.phase = .release → exec .envAdv s = .next (answered
      { s with env := { s.env with level := s.env.target, phase := .idle, remain := 0#32 } } .ok 0#32))) ∧
  (∀ s : State, s.sys.mode ≠ .run →
    exec .envAdv s = .next (answered s .modeError ((modeCode s.sys.mode).setWidth 32))) ∧
  (∀ s : State, performWord 0x1100000000#40 s = exec .envAdv s) ∧
  ∀ (s : State) (op : Word), op ≠ 0#32 → performWord (0x11#8 ++ op) s = .next (answered s .illegal 2#32)

/-- 41_envelope.md R118 item 3: from Idle, a gate-on and `max(A, 1)` advances reach the top exactly, at the start of Decay;
and from a gate that is on, a gate-off and `max(R, 1)` advances reach 0 exactly, in Idle; for both curves. -/
def Obligations.FullCycleReachesTopAndZeroExactly : Prop :=
  (∀ s : State, s.sys.mode = .run → s.env.phase = .idle →
    ∃ t, runCommands (.envGate true :: List.replicate (max s.env.attackT.toNat 1) .envAdv) s = .next t ∧
      t.env.level.toNat = 2 ^ 31 ∧ t.env.phase = .decay) ∧
  ∀ s : State, s.sys.mode = .run → s.env.gate = true →
    ∃ t, runCommands (.envGate false :: List.replicate (max s.env.releaseT.toNat 1) .envAdv) s = .next t ∧
      t.env.level.toNat = 0 ∧ t.env.phase = .idle

/-- 41_envelope.md R118 item 4: a re-trigger restarts Attack at the level the envelope has, and no later level of that
Attack is below it. -/
def Obligations.RetriggerNeverDropsTheLevel : Prop :=
  ∀ (s : State) (n : Nat), s.sys.mode = .run → s.env.level.toNat ≤ 2 ^ 31 → n < max s.env.attackT.toNat 1 →
    (s.env.phase = .decay ∨ s.env.phase = .sustain ∨ s.env.phase = .release) →
    ∃ t, runCommands (.envGate true :: List.replicate n .envAdv) s = .next t ∧ t.env.phase = .attack ∧
      (n = 0 → t.env.level = s.env.level) ∧ s.env.level.toNat ≤ t.env.level.toNat ∧ t.env.level.toNat ≤ 2 ^ 31

/-- 41_envelope.md R112 corner case (c), with the Idle level 0 of 10_state.md R36: every command but the accesses to
ENV_CTRL (number 0x10) gives the same response and, but for that bit, the same state for either setting of LEGATO, in any
state with the invariant, and leaves the bit as it was. -/
def Obligations.OnlyEnvCtrlAccessesShowTheLegatoBit : Prop :=
  ∀ (i : Instr) (s : State) (b : Bool), Inv s → i ≠ .rdreg 0x10#6 → (∀ v, i ≠ .wrcfg 0x10#6 v) →
    ∃ t, exec i s = .next t ∧ t.env.legato = s.env.legato ∧
      exec i { s with env := { s.env with legato := b } } = .next { t with env := { t.env with legato := b } }

/-- 41_envelope.md R117: the phase changes only along the listed transitions, each by its own command. -/
def Obligations.PhaseTransitionsAreTheListedOnes : Prop :=
  ∀ (i : Instr) (s t : State), Inv s → exec i s = .next t → t.env.phase ≠ s.env.phase →
    (i = .envGate true ∧ s.env.phase ≠ .attack ∧ t.env.phase = .attack) ∨
    (i = .envGate false ∧ (s.env.phase = .attack ∨ s.env.phase = .decay ∨ s.env.phase = .sustain) ∧
      t.env.phase = .release) ∨
    (i = .envAdv ∧ s.env.remain.toNat ≤ 1 ∧
      ((s.env.phase = .attack ∧ t.env.phase = .decay) ∨ (s.env.phase = .decay ∧ t.env.phase = .sustain) ∨
        (s.env.phase = .release ∧ t.env.phase = .idle)))

/-! ### LFO -/

/-- 42_lfo.md R132, whole: `LFO.SETF`, performed in RUN for every pattern, refused elsewhere, and its encoding. -/
def Obligations.SetFrequencyWritesOnlyTheFrequency : Prop :=
  (∀ (s : State) (value : Word), s.sys.mode = .run →
    exec (.lfoSetf value) s = .next (answered { s with lfo := { s.lfo with freq := value } } .ok 0#32)) ∧
  (∀ (s : State) (value : Word), s.sys.mode ≠ .run →
    exec (.lfoSetf value) s = .next (answered s .modeError ((modeCode s.sys.mode).setWidth 32))) ∧
  ∀ (s : State) (value : Word), performWord (0x20#8 ++ value) s = exec (.lfoSetf value) s

/-- 42_lfo.md R134 and R133, whole: `LFO.ADV` with and without a wrap, its refusals and its encoding. -/
def Obligations.LfoAdvanceMovesPhaseAndDrawsOnWrap : Prop :=
  (∀ (s : State) (sum : Nat), s.sys.mode = .run →
    sum = s.lfo.phase.toNat + s.lfo.freq.toNat * s.sys.tickPeriod.toNat / 2 ^ 16 →
    (sum < 2 ^ 32 → exec .lfoAdv s = .next (answered
      { s with lfo := { s.lfo with phase := BitVec.ofNat 32 sum } } .ok 0#32)) ∧
    (2 ^ 32 ≤ sum → ∃ hold : BitVec 17, hold.toNat = (params.prng s.lfo.rng).toNat / 2 ^ 15 ∧
      exec .lfoAdv s = .next (answered
        { s with lfo :=
          { s.lfo with phase := BitVec.ofNat 32 (sum % 2 ^ 32), rng := params.prng s.lfo.rng, hold := hold } } .ok 0#32))) ∧
  (∀ s : State, s.sys.mode ≠ .run →
    exec .lfoAdv s = .next (answered s .modeError ((modeCode s.sys.mode).setWidth 32))) ∧
  (∀ s : State, performWord 0x2100000000#40 s = exec .lfoAdv s) ∧
  ∀ (s : State) (op : Word), op ≠ 0#32 → performWord (0x21#8 ++ op) s = .next (answered s .illegal 2#32)

/-- 42_lfo.md R140, whole: `LFO.SYNC` clears the phase alone, and draws nothing; its refusals and its encoding. -/
def Obligations.SyncClearsOnlyThePhase : Prop :=
  (∀ s : State, s.sys.mode = .run →
    exec .lfoSync s = .next (answered { s with lfo := { s.lfo with phase := 0#32 } } .ok 0#32)) ∧
  (∀ s : State, s.sys.mode ≠ .run →
    exec .lfoSync s = .next (answered s .modeError ((modeCode s.sys.mode).setWidth 32))) ∧
  (∀ s : State, performWord 0x2200000000#40 s = exec .lfoSync s) ∧
  ∀ (s : State) (op : Word), op ≠ 0#32 → performWord (0x22#8 ++ op) s = .next (answered s .illegal 2#32)

/-- 42_lfo.md R142 item 2: after `n` advances the phase has moved by `n` increments modulo one cycle, and it returns
exactly when the increments make whole cycles. -/
def Obligations.LfoPhaseAfterManyAdvances : Prop :=
  ∀ (s : State) (n : Nat), s.sys.mode = .run →
    ∃ t, runCommands (List.replicate n .lfoAdv) s = .next t ∧
      t.lfo.phase.toNat = (s.lfo.phase.toNat + n * (s.lfo.freq.toNat * s.sys.tickPeriod.toNat / 2 ^ 16)) % 2 ^ 32 ∧
      (n * (s.lfo.freq.toNat * s.sys.tickPeriod.toNat / 2 ^ 16) = 2 ^ 32 → t.lfo.phase = s.lfo.phase)

/-- 42_lfo.md R135 and R142 item 4: the held value and the generator change only in an `LFO.ADV` that wraps, or in the
construction. -/
def Obligations.HeldValueChangesOnlyAtAWrap : Prop :=
  ∀ (i : Instr) (s t : State), exec i s = .next t → (t.lfo.hold ≠ s.lfo.hold ∨ t.lfo.rng ≠ s.lfo.rng) →
    (i = .lfoAdv ∧ s.sys.mode = .run ∧
      2 ^ 32 ≤ s.lfo.phase.toNat + s.lfo.freq.toNat * s.sys.tickPeriod.toNat / 2 ^ 16) ∨
    (i = .init ∧ s.sys.mode = .config)

/-- 42_lfo.md R138: the five waveforms in terms of the phase. -/
def Obligations.WaveformsFollowTheirFormulas : Prop :=
  ∀ (P : Params) (l : Lfo),
    (l.wave = .sine → waveSample P l = P.sine (BitVec.ofNat 8 (l.phase.toNat / 2 ^ 24))) ∧
    (l.wave = .triangle → waveSample P l =
      if l.phase.toNat / 2 ^ 14 < 65536 then ((l.phase.toNat / 2 ^ 14 : Nat) : Int)
      else if l.phase.toNat / 2 ^ 14 < 196608 then 131072 - ((l.phase.toNat / 2 ^ 14 : Nat) : Int)
      else ((l.phase.toNat / 2 ^ 14 : Nat) : Int) - 262144) ∧
    (l.wave = .square → waveSample P l = if l.phase.toNat < l.duty.toNat then 65536 else -65536) ∧
    (l.wave = .saw → waveSample P l = ((l.phase.toNat / 2 ^ 15 : Nat) : Int) - 65536) ∧
    (l.wave = .sampleHold → waveSample P l = l.hold.toInt)

/-- 42_lfo.md R139, whole: `RDREG LFO_VALUE` answers the saturated sum of the floored product and the offset; every waveform
lies in -1..1, and the output lies within the amplitude of the offset wherever that range is representable. -/
def Obligations.LfoOutputStaysWithinItsRange : Prop :=
  (∀ s : State, ∃ d : Word, exec (.rdreg 0x2B#6) s = .next (answered s .ok d) ∧
    fxOf d = max (-2147483648) (min 2147483647 (waveSample params s.lfo * fxOf s.lfo.amp / 65536 + fxOf s.lfo.offset))) ∧
  ∀ P : Params, P.Legal → ∀ l : Lfo,
    (-65536 ≤ waveSample P l ∧ waveSample P l ≤ 65536) ∧
    (-2147483648 ≤ fxOf l.offset - |fxOf l.amp| → fxOf l.offset + |fxOf l.amp| ≤ 2147483647 →
      fxOf l.offset - |fxOf l.amp| ≤ lfoOut P l ∧ lfoOut P l ≤ fxOf l.offset + |fxOf l.amp|)

/-! ### Mapper -/

/-- 43_midi_to_cv.md R152 and R155, whole: `MAP.NOTEON` accepted with a nonzero velocity, the target being the saturated sum
of the floored scaled distance from the zero note and the note's trim; a note-off in disguise with velocity 0; its errors,
the note before the velocity, with nothing else changed; and its encoding. The velocity output is R158's function, which
`VelocityCurves` states. -/
def Obligations.NoteOnCommand : Prop :=
  (∀ (s : State) (note vel : BitVec 8), s.sys.mode = .run → note.toNat ≤ 127 → 1 ≤ vel.toNat → vel.toNat ≤ 127 →
    ∃ target : Word,
      fxOf target = max (-2147483648) (min 2147483647
        (fxOf s.map.scale * ((note.toNat : Int) - s.map.zeroNote.toNat) / 12 + fxOf (memRead s.mem .trim note.toNat))) ∧
      exec (.mapNoteon note vel) s = .next (answered
        { s with map :=
          { s.map with
            note := BitVec.ofNat 7 note.toNat
            target := target
            velCv := velCurve params s.map s.mem vel.toNat
            slewRemain := if s.map.glideEn then s.map.glideT else 0#32
            acc := if s.map.glideEn then s.map.acc else target ++ 0#16 } } .ok 0#32)) ∧
  (∀ (s : State) (note vel : BitVec 8), s.sys.mode = .run → 127 < note.toNat →
    exec (.mapNoteon note vel) s = .next (answered s .valueOutOfRange 1#32)) ∧
  (∀ (s : State) (note vel : BitVec 8), s.sys.mode = .run → note.toNat ≤ 127 → 127 < vel.toNat →
    exec (.mapNoteon note vel) s = .next (answered s .valueOutOfRange 2#32)) ∧
  (∀ (s : State) (note vel : BitVec 8), s.sys.mode = .run → note.toNat ≤ 127 → vel.toNat = 0 →
    exec (.mapNoteon note vel) s = .next (answered s .ok 0#32)) ∧
  (∀ (s : State) (note vel : BitVec 8), s.sys.mode ≠ .run →
    exec (.mapNoteon note vel) s = .next (answered s .modeError ((modeCode s.sys.mode).setWidth 32))) ∧
  (∀ (s : State) (note vel : BitVec 8),
    performWord (0x30#8 ++ (0#16 ++ vel ++ note : Word)) s = exec (.mapNoteon note vel) s) ∧
  ∀ (s : State) (op : Word), 65535 < op.toNat → performWord (0x30#8 ++ op) s = .next (answered s .illegal 2#32)

/-- 43_midi_to_cv.md R160, whole: `MAP.NOTEOFF` changes nothing; its refusals and its encoding. -/
def Obligations.NoteOffChangesNothing : Prop :=
  (∀ (s : State) (note : BitVec 8), s.sys.mode = .run → note.toNat ≤ 127 →
    exec (.mapNoteoff note) s = .next (answered s .ok 0#32)) ∧
  (∀ (s : State) (note : BitVec 8), s.sys.mode = .run → 127 < note.toNat →
    exec (.mapNoteoff note) s = .next (answered s .valueOutOfRange 1#32)) ∧
  (∀ (s : State) (note : BitVec 8), s.sys.mode ≠ .run →
    exec (.mapNoteoff note) s = .next (answered s .modeError ((modeCode s.sys.mode).setWidth 32))) ∧
  (∀ (s : State) (note : BitVec 8), performWord (0x32#8 ++ (0#24 ++ note : Word)) s = exec (.mapNoteoff note) s) ∧
  ∀ (s : State) (op : Word), 255 < op.toNat → performWord (0x32#8 ++ op) s = .next (answered s .illegal 2#32)

/-- 43_midi_to_cv.md R161, whole: the bend of `MAP.BEND` is stored, shown sign-extended, and nothing else changes; its
refusals and its encoding. -/
def Obligations.BendIsStoredSignExtended : Prop :=
  (∀ (s : State) (bend : BitVec 16), s.sys.mode = .run → -8192 ≤ bend.toInt → bend.toInt ≤ 8191 →
    ∃ b : BitVec 14, b.toInt = bend.toInt ∧
      exec (.mapBend bend) s = .next (answered { s with map := { s.map with bend := b } } .ok 0#32) ∧
      fxOf (readReg params .mapBend { s with map := { s.map with bend := b } }) = bend.toInt) ∧
  (∀ (s : State) (bend : BitVec 16), s.sys.mode = .run → (bend.toInt < -8192 ∨ 8191 < bend.toInt) →
    exec (.mapBend bend) s = .next (answered s .valueOutOfRange 3#32)) ∧
  (∀ (s : State) (bend : BitVec 16), s.sys.mode ≠ .run →
    exec (.mapBend bend) s = .next (answered s .modeError ((modeCode s.sys.mode).setWidth 32))) ∧
  (∀ (s : State) (bend : BitVec 16), performWord (0x33#8 ++ (0#16 ++ bend : Word)) s = exec (.mapBend bend) s) ∧
  ∀ (s : State) (op : Word), 65535 < op.toNat → performWord (0x33#8 ++ op) s = .next (answered s .illegal 2#32)

/-- 43_midi_to_cv.md R163, whole: `MAP.ADV` between deadlines and at the deadline, its refusals and its encoding. -/
def Obligations.MapperAdvanceMovesTheAccumulator : Prop :=
  (∀ s : State, s.sys.mode = .run → s.map.slewRemain.toNat ≤ 1 → exec .mapAdv s = .next (answered
    { s with map := { s.map with acc := s.map.target ++ 0#16, slewRemain := 0#32 } } .ok 0#32)) ∧
  (∀ s : State, s.sys.mode = .run → 2 ≤ s.map.slewRemain.toNat → ∃ acc : BitVec 48,
    acc.toInt = s.map.acc.toInt +
      (match s.map.glideCurve with
        | .linear => tdiv (fxOf s.map.target * 2 ^ 16 - s.map.acc.toInt) s.map.slewRemain.toNat
        | .exponential => mulrate (fxOf s.map.target * 2 ^ 16 - s.map.acc.toInt) (params.expRate s.map.glideT)) ∧
    exec .mapAdv s = .next (answered
      { s with map := { s.map with acc := acc, slewRemain := BitVec.ofNat 32 (s.map.slewRemain.toNat - 1) } } .ok 0#32)) ∧
  (∀ s : State, s.sys.mode ≠ .run →
    exec .mapAdv s = .next (answered s .modeError ((modeCode s.sys.mode).setWidth 32))) ∧
  (∀ s : State, performWord 0x3100000000#40 s = exec .mapAdv s) ∧
  ∀ (s : State) (op : Word), op ≠ 0#32 → performWord (0x31#8 ++ op) s = .next (answered s .illegal 2#32)

/-- 43_midi_to_cv.md R167 item 3: after an accepted note-on and `max(MAP_GLIDE_T, 1)` advances the accumulator stands on
the target, glide on or off. -/
def Obligations.GlideConvergesWithinItsTime : Prop :=
  ∀ (s : State) (note vel : BitVec 8), s.sys.mode = .run → note.toNat ≤ 127 → 1 ≤ vel.toNat → vel.toNat ≤ 127 →
    ∃ t, runCommands (.mapNoteon note vel :: List.replicate (max s.map.glideT.toNat 1) .mapAdv) s = .next t ∧
      t.map.acc.toInt = noteTarget s.map s.mem note.toNat * 2 ^ 16 ∧ t.map.target = t.map.acc.extractLsb' 16 32 ∧
      t.map.slewRemain = 0#32

/-- 43_midi_to_cv.md R157: with the glide off, the pitch after a note-on is non-decreasing in the note number, for every
configuration that was accepted at construction and every bend. -/
def Obligations.PitchIsMonotoneInTheNote : Prop :=
  ∀ (s : State) (n m v v' : BitVec 8), Inv s → s.sys.mode = .run → s.map.glideEn = false → n.toNat ≤ m.toNat →
    m.toNat ≤ 127 → 1 ≤ v.toNat → v.toNat ≤ 127 → 1 ≤ v'.toNat → v'.toNat ≤ 127 →
    ∃ t t', exec (.mapNoteon n v) s = .next t ∧ exec (.mapNoteon m v') s = .next t' ∧ pitchOut t.map ≤ pitchOut t'.map

/-- 43_midi_to_cv.md R158: the linear velocity curve is the floor of `v * 2^31 / 127`, the default exponential one the floor
of `v * v * 2^31 / 16129`; both are strictly increasing and end at 1.0; and the table curve gives the entry. That the machine
runs at the default is log entry 3. -/
def Obligations.VelocityCurves : Prop :=
  ∀ (m : Mapper) (mem : Memory),
    (∀ v, 1 ≤ v → v ≤ 127 →
      (m.velCurve = .linear → (velCurve params m mem v).toNat = v * 2 ^ 31 / 127) ∧
      (m.velCurve = .exponential → (velCurve params m mem v).toNat = v * v * 2 ^ 31 / 16129) ∧
      (m.velCurve = .table → velCurve params m mem v = memRead mem .vlut v)) ∧
    (m.velCurve ≠ .table → velCurve params m mem 127 = 0x80000000#32 ∧
      ∀ v w, 1 ≤ v → v < w → w ≤ 127 → (velCurve params m mem v).toNat < (velCurve params m mem w).toNat)

/-- 43_midi_to_cv.md R165 and R156: the pitch output, as `RDREG MAP_PITCH_CV` answers it, is the saturated sum of the
accumulator's `fx` part and the bend contribution. -/
def Obligations.PitchReadIsNotePlusBend : Prop :=
  ∀ s : State, ∃ d : Word, exec (.rdreg 0x3E#6) s = .next (answered s .ok d) ∧
    fxOf d = max (-2147483648) (min 2147483647 (s.map.acc.toInt / 65536 +
      max (-2147483648) (min 2147483647
        (fxOf s.map.scale * s.map.bendRange.toNat * s.map.bend.toInt / 98304))))

/-! ### Register access -/

/-- 10_state.md R21 and 44_register_access.md R176: which register numbers are writable, with which must-be-zero bits; which
are in use and not writable; all others are reserved. -/
def Obligations.WritableRegisterTable : Prop :=
  ∀ r : BitVec 6,
    (regOfNumber r).map (fun x => (regWritable x, regMbz x)) =
      if r ∈ [0x02#6, 0x11#6, 0x12#6, 0x13#6, 0x14#6, 0x21#6, 0x22#6, 0x23#6, 0x24#6, 0x25#6, 0x31#6, 0x34#6, 0x36#6]
      then some (true, 0#32)
      else if r = 0x10#6 then some (true, 0xFFFFFFFC#32)
      else if r = 0x20#6 then some (true, 0xFFFFFFF8#32)
      else if r = 0x30#6 then some (true, 0xFFFFFFF0#32)
      else if r = 0x32#6 then some (true, 0xFFFFFF80#32)
      else if r = 0x33#6 then some (true, 0xFFFFFF00#32)
      else if r = 0x35#6 then some (true, 0xFFFFFE80#32)
      else if r ∈ [0x00#6, 0x01#6, 0x03#6, 0x04#6, 0x05#6, 0x18#6, 0x19#6, 0x1A#6, 0x1B#6, 0x28#6, 0x29#6, 0x2A#6, 0x2B#6,
        0x38#6, 0x39#6, 0x3A#6, 0x3B#6, 0x3C#6, 0x3D#6, 0x3E#6, 0x3F#6] then some (false, 0#32)
      else none

/-- 44_register_access.md R176: an accepted `WRCFG` writes its register, which then reads back as the value written, and no
other stored register, no table entry (the window's own apart) and no waiting input changes. The canonical form of the
tables is the model's own (log entry 8). -/
def Obligations.WrcfgWritesItsRegisterOnly : Prop :=
  ∀ (s : State) (x : Reg) (v : Word), s.mem.wf = true → regWritable x = true → v &&& regMbz x = 0#32 →
    (s.sys.mode = .config ∨ x = .tabAddr) → regLegal x v s = true →
    ∃ t, exec (.wrcfg (regNumber x) v) s = .next t ∧ t.response = some ⟨.ok, 0#32⟩ ∧ t.inbox = s.inbox ∧
      (∀ P, readReg P x t = v) ∧
      (∀ P y, y ≠ x → regClass y ≠ .cmp → regClass y ≠ .win → readReg P y t = readReg P y s) ∧
      ∀ space i, (x = .tabData → space ≠ s.tab.sel ∨ i ≠ s.tab.idx.toNat) → memRead t.mem space i = memRead s.mem space i

/-- 44_register_access.md R176 and 30_encoding.md R87: the refusals of `WRCFG`, each with nothing else changed, in the
order of the checks. -/
def Obligations.WrcfgRefusalsInOrder : Prop :=
  ∀ (s : State) (r : BitVec 6) (v : Word),
    (regOfNumber r = none → exec (.wrcfg r v) s = .next (answered s .illegal 3#32)) ∧
    ∀ x, regOfNumber r = some x →
      (regWritable x = false → exec (.wrcfg r v) s = .next (answered s .illegal 4#32)) ∧
      (regWritable x = true → v &&& regMbz x ≠ 0#32 → exec (.wrcfg r v) s = .next (answered s .illegal 2#32)) ∧
      (regWritable x = true → v &&& regMbz x = 0#32 → x ≠ .tabAddr → s.sys.mode ≠ .config →
        exec (.wrcfg r v) s = .next (answered s .modeError ((modeCode s.sys.mode).setWidth 32))) ∧
      (v &&& regMbz x = 0#32 → s.sys.mode = .config →
        ((x = .envSustain ∧ 2 ^ 31 < v.toNat) ∨ (x = .lfoCtrl ∧ 4 < v.toNat % 8) ∨ (x = .mapCtrl ∧ v.toNat % 4 = 3) ∨
          (x = .tabData ∧ s.tab.sel = .vlut ∧ 2 ^ 31 < v.toNat)) →
        exec (.wrcfg r v) s = .next (answered s .illegal 5#32))

/-- 44_register_access.md R177: the window write, for both tables, and the value it refuses. That the tables stay in their
canonical form is about the model's own form (log entry 8). -/
def Obligations.WindowWriteStoresOneEntry : Prop :=
  (∀ (s : State) (v : Word), s.sys.mode = .config → s.tab.sel = .vlut → 2 ^ 31 < v.toNat →
    exec (.wrcfg 0x36#6 v) s = .next (answered s .illegal 5#32)) ∧
  ∀ (s : State) (v : Word), s.sys.mode = .config → s.mem.wf = true → (s.tab.sel = .trim ∨ v.toNat ≤ 2 ^ 31) →
    ∃ m : Memory, exec (.wrcfg 0x36#6 v) s = .next (answered { s with mem := m } .ok 0#32) ∧ m.wf = true ∧
      memRead m s.tab.sel s.tab.idx.toNat = v ∧
      ∀ space i, (space ≠ s.tab.sel ∨ i ≠ s.tab.idx.toNat) → memRead m space i = memRead s.mem space i

/-- 44_register_access.md R178 and R179, with the numbers of 10_state.md R21: `RDREG` of each of the forty numbers answers the
value of its register, in every mode, and changes nothing; the window shows the selected entry; a reserved number is
`ILLEGAL(3)`, and an operand bit `ILLEGAL(2)`. The fields of the assembled registers, which stand here as `readReg`, are in
`AssembledRegistersShowTheirFields`. -/
def Obligations.RdregAnswersAndChangesNothing : Prop :=
  (∀ s : State, ∀ p ∈ ([(0x00#6, 0x4D474531#32), (0x02#6, s.sys.tickPeriod), (0x03#6, s.sys.tickCount),
      (0x04#6, BitVec.ofNat 32 (s.sys.tickCount.toNat * s.sys.tickPeriod.toNat / 2 ^ 32)),
      (0x05#6, BitVec.ofNat 32 (s.sys.tickCount.toNat * s.sys.tickPeriod.toNat % 2 ^ 32)),
      (0x11#6, s.env.attackT), (0x12#6, s.env.decayT), (0x13#6, s.env.sustain), (0x14#6, s.env.releaseT),
      (0x19#6, s.env.level), (0x1A#6, s.env.target), (0x1B#6, s.env.remain),
      (0x21#6, s.lfo.freq), (0x22#6, s.lfo.amp), (0x23#6, s.lfo.offset), (0x24#6, s.lfo.duty), (0x25#6, s.lfo.seed),
      (0x28#6, s.lfo.phase), (0x2A#6, s.lfo.rng), (0x2B#6, pattern32 (lfoOut params s.lfo))] : List (BitVec 6 × Word)),
    exec (.rdreg p.1) s = .next (answered s .ok p.2)) ∧
  (∀ s : State, ∀ p ∈ ([(0x31#6, s.map.scale), (0x34#6, s.map.glideT), (0x3A#6, s.map.target), (0x3B#6, s.map.slewRemain),
      (0x3C#6, s.map.acc.extractLsb' 16 32), (0x3E#6, pattern32 (pitchOut s.map)), (0x3F#6, s.map.velCv),
      (0x36#6, memRead s.mem s.tab.sel s.tab.idx.toNat)] : List (BitVec 6 × Word)),
    exec (.rdreg p.1) s = .next (answered s .ok p.2)) ∧
  (∀ s : State, ∀ p ∈ [(0x01#6, Reg.status), (0x10#6, .envCtrl), (0x18#6, .envState), (0x20#6, .lfoCtrl), (0x29#6, .lfoHold),
      (0x30#6, .mapCtrl), (0x32#6, .mapZeroNote), (0x33#6, .mapBendRange), (0x35#6, .tabAddr), (0x38#6, .mapNote),
      (0x39#6, .mapBend), (0x3D#6, .mapNoteFrac)],
    exec (.rdreg p.1) s = .next (answered s .ok (readReg params p.2 s))) ∧
  (∀ (s : State) (x : Reg), exec (.rdreg (regNumber x)) s = .next (answered s .ok (readReg params x s))) ∧
  (∀ (s : State) (r : BitVec 6), performWord (2#2 ++ r ++ 0#32) s = exec (.rdreg r) s) ∧
  (∀ s : State, readReg params .tabData s =
    match s.tab.sel with
    | .trim => memRead s.mem .trim s.tab.idx.toNat
    | .vlut => memRead s.mem .vlut s.tab.idx.toNat) ∧
  (∀ (s : State) (r : BitVec 6), regInUse r = false → exec (.rdreg r) s = .next (answered s .illegal 3#32)) ∧
  ∀ (s : State) (r : BitVec 6) (op : Word), regInUse r = true → op ≠ 0#32 →
    performWord (2#2 ++ r ++ op) s = .next (answered s .illegal 2#32)

/-- 10_state.md R25, R29, R32, R37, R43, R45 to R48 and R52, with the codes of 30_encoding.md R90: the registers that are
assembled from fields or widened on a read, as numbers. -/
def Obligations.AssembledRegistersShowTheirFields : Prop :=
  ∀ (P : Params) (s : State),
    (readReg P .status s).toNat =
      (match s.sys.mode with | .config => 0 | .run => 1 | .failed => 2) + 16 * s.sys.cfgCause.toNat ∧
    (readReg P .envCtrl s).toNat =
      (match s.env.curve with | .linear => 0 | .exponential => 1) + 2 * s.env.legato.toNat ∧
    (readReg P .envState s).toNat =
      (match s.env.phase with | .idle => 0 | .attack => 1 | .decay => 2 | .sustain => 3 | .release => 4) +
        16 * s.env.gate.toNat ∧
    (readReg P .lfoCtrl s).toNat =
      (match s.lfo.wave with | .sine => 0 | .triangle => 1 | .square => 2 | .saw => 3 | .sampleHold => 4) ∧
    (readReg P .mapCtrl s).toNat =
      (match s.map.velCurve with | .linear => 0 | .exponential => 1 | .table => 2) + 4 * s.map.glideEn.toNat +
        8 * (match s.map.glideCurve with | .linear => 0 | .exponential => 1) ∧
    (readReg P .tabAddr s).toNat = s.tab.idx.toNat + 256 * (match s.tab.sel with | .trim => 0 | .vlut => 1) ∧
    fxOf (readReg P .lfoHold s) = s.lfo.hold.toInt ∧
    fxOf (readReg P .mapBend s) = s.map.bend.toInt ∧
    (readReg P .mapNote s).toNat = s.map.note.toNat ∧
    (readReg P .mapZeroNote s).toNat = s.map.zeroNote.toNat ∧
    (readReg P .mapBendRange s).toNat = s.map.bendRange.toNat ∧
    (readReg P .mapNoteFrac s).toNat < 2 ^ 16 ∧
    fxOf (readReg P .mapNoteCv s) * 2 ^ 16 + (readReg P .mapNoteFrac s).toNat = s.map.acc.toInt

/-- 20_memory.md R60: two canonical tables with the same entries are the same data. The canonical form is the model's own
(log entry 8). -/
def Obligations.EqualEntriesAreEqualTables : Prop :=
  ∀ t u : Table, tableWf t = true → tableWf u = true → (∀ i < 128, tableRead t i = tableRead u i) → t = u

/-! ### Machine-wide rules -/

/-- 10_state.md R36, R57; 60_exceptions.md R196: the invariant holds after reset. Its clause that the tables are canonical is
about the model's own form (log entry 8). -/
def Obligations.ResetStateIsSafe : Prop := Inv State.reset

/-- 10_state.md R36, R57, R25, R31; 20_memory.md R64; 43_midi_to_cv.md R157; 60_exceptions.md R196: every step from any
state with the invariant, whatever the input, keeps it. Its clause that the tables are canonical is about the model's own
form (log entry 8). -/
def Obligations.EveryStepKeepsTheInvariant : Prop := ∀ s t : State, Inv s → step s = .next t → Inv t

/-- The same for every legal value of the four parameters (00_scope.md R8: "total, monotone and exact at the deadline under
that assumption alone"); the clause about canonical tables is the model's own form (log entry 8). -/
def Obligations.EveryCommandKeepsTheInvariantForAllParameters : Prop :=
  ∀ P : Params, P.Legal → ∀ (i : Instr) (s t : State), Inv s → execWith P i s = .next t → Inv t

/-- 60_exceptions.md R187: a command word answered with a status other than `OK` changes nothing but the response; a failed
INIT also writes STATUS. -/
def Obligations.RejectedCommandChangesNothing : Prop :=
  ∀ (w : CommandWord) (s t : State) (r : Response), performWord w s = .next t → t.response = some r → r.status ≠ .ok →
    t = { s with response := some r } ∨
    (w = 0x0000000000#40 ∧ r.status = .configurationError ∧ s.sys.mode = .config ∧
      ∃ mask : BitVec 3, mask ≠ 0#3 ∧ r.data = mask.setWidth 32 ∧
        t = { s with sys := { s.sys with mode := .failed, cfgCause := mask }, response := some r })

/-- 60_exceptions.md R188: which statuses a decoded command can be answered with. -/
def Obligations.StatusesEachCommandCanReturn : Prop :=
  ∀ (i : Instr) (s t : State) (r : Response), exec i s = .next t → t.response = some r →
    match i with
    | .init => r.status = .ok ∨ (r.status = .modeError ∧ s.sys.mode ≠ .config) ∨ r.status = .configurationError
    | .tick | .envGate _ | .envAdv | .lfoSetf _ | .lfoAdv | .lfoSync | .mapAdv =>
      r.status = .ok ∨ (r.status = .modeError ∧ s.sys.mode ≠ .run)
    | .mapNoteon _ _ =>
      r.status = .ok ∨ (r.status = .modeError ∧ s.sys.mode ≠ .run) ∨
        (r.status = .valueOutOfRange ∧ (r.data = 1#32 ∨ r.data = 2#32))
    | .mapNoteoff _ =>
      r.status = .ok ∨ (r.status = .modeError ∧ s.sys.mode ≠ .run) ∨ (r.status = .valueOutOfRange ∧ r.data = 1#32)
    | .mapBend _ =>
      r.status = .ok ∨ (r.status = .modeError ∧ s.sys.mode ≠ .run) ∨ (r.status = .valueOutOfRange ∧ r.data = 3#32)
    | .wrcfg n _ =>
      r.status = .ok ∨ (r.status = .modeError ∧ s.sys.mode ≠ .config ∧ n ≠ 0x35#6) ∨
        (r.status = .illegal ∧ (r.data = 2#32 ∨ r.data = 3#32 ∨ r.data = 4#32 ∨ r.data = 5#32))
    | .rdreg _ => r.status = .ok ∨ (r.status = .illegal ∧ r.data = 3#32)

/-- 60_exceptions.md R196: a well-formed command is answered `MODE_ERROR` exactly where the table of commands by mode says
so, with the mode as its data. -/
def Obligations.ModeErrorsFollowTheModeTable : Prop :=
  ∀ (i : Instr) (s : State), WellFormed i = true →
    if (i = .init ∧ s.sys.mode ≠ .config) ∨ (operational i = true ∧ s.sys.mode ≠ .run) ∨
      (∃ r v, i = .wrcfg r v ∧ r ≠ 0x35#6 ∧ s.sys.mode ≠ .config)
    then exec i s = .next (answered s .modeError (match s.sys.mode with | .config => 0#32 | .run => 1#32 | .failed => 2#32))
    else ∃ t r, exec i s = .next t ∧ t.response = some r ∧ r.status ≠ .modeError

/-- 60_exceptions.md R197: no command changes the mode but an `INIT` in CONFIG, to RUN if it succeeds and to FAILED if it
fails. The reset input is in `StepTakesResetAndIdles`. -/
def Obligations.ModeChangesOnlyByInit : Prop :=
  ∀ (i : Instr) (s t : State), exec i s = .next t → t.sys.mode ≠ s.sys.mode →
    i = .init ∧ s.sys.mode = .config ∧
      ((t.sys.mode = .run ∧ t.response = some ⟨.ok, 0#32⟩) ∨
        (t.sys.mode = .failed ∧ ∃ data, t.response = some ⟨.configurationError, data⟩))

/-- 20_memory.md R71, 10_state.md R21: in RUN mode no command changes the configuration or a table, but `LFO.SETF` the
frequency. -/
def Obligations.ConfigurationIsFrozenInRun : Prop :=
  ∀ (i : Instr) (s t : State), s.sys.mode = .run → exec i s = .next t →
    t.mem = s.mem ∧
    (∀ P, ∀ x ∈ [Reg.tickPeriod, .envCtrl, .envAttackT, .envDecayT, .envSustain, .envReleaseT, .lfoCtrl, .lfoAmp, .lfoOffset,
      .lfoDuty, .lfoSeed, .mapCtrl, .mapScale, .mapZeroNote, .mapBendRange, .mapGlideT], readReg P x t = readReg P x s) ∧
    (t.lfo.freq = s.lfo.freq ∨ i = .lfoSetf t.lfo.freq)

/-- 60_exceptions.md R189 and R196: once construction has failed no sequence of commands changes anything but `TAB_ADDR`. -/
def Obligations.FailedBlockStaysFailed : Prop :=
  ∀ (l : List Instr) (s : State), s.sys.mode = .failed →
    ∃ tab resp, runCommands l s = .next { s with tab := tab, response := resp }

/-- 20_memory.md R69: advancing the units in either order within a tick gives the same state. -/
def Obligations.UnitAdvancesCommute : Prop :=
  ∀ (s : State), ∀ i ∈ [Instr.tick, .envAdv, .lfoAdv, .mapAdv], ∀ j ∈ [Instr.tick, .envAdv, .lfoAdv, .mapAdv],
    ∃ t, runCommands [i, j] s = .next t ∧ runCommands [j, i] s = .next t

/-- 10_state.md R56, whole: which registers each command may change, in every mode. A computed register and the table window
are no storage (R20); `mayChange` is the table of the rule, where a `WRCFG` may change its own register, of class CFG, CFG+F
or PTR, and no other. -/
def Obligations.WritersOfEachRegister : Prop :=
  ∀ (i : Instr) (s t : State), exec i s = .next t →
    (∀ P x, regClass x ≠ .cmp → regClass x ≠ .win → readReg P x t ≠ readReg P x s → x ∈ mayChange i) ∧
    (t.mem ≠ s.mem → ∃ v, i = .wrcfg 0x36#6 v ∧
      ∀ space k, (space ≠ s.tab.sel ∨ k ≠ s.tab.idx.toNat) → memRead t.mem space k = memRead s.mem space k) ∧
    (i = .init → t.response ≠ some ⟨.ok, 0#32⟩ → ∀ P x, x ≠ .status → readReg P x t = readReg P x s) ∧
    (t.env.gate ≠ s.env.gate → i = .init ∨ ∃ on, i = .envGate on) ∧
    (∀ on, i = .envGate on → t.env.level ≠ s.env.level → s.env.phase = .idle ∧ t.env.level = 0#32) ∧
    t.inbox = s.inbox

/-- 43_midi_to_cv.md R155, whole: the pitch of a note, which the construction check, the note-on and the invariant use. -/
def Obligations.NoteTargetFollowsItsFormula : Prop :=
  ∀ (m : Mapper) (mem : Memory) (n : Nat), n ≤ 127 →
    noteTarget m mem n = max (-2147483648) (min 2147483647
      (fxOf m.scale * ((n : Int) - m.zeroNote.toNat) / 12 + fxOf (memRead mem .trim n)))
end

