-- ==== Sys2Proof/Laws/Arith.lean ====
section
/-! SUPPORT. What the named arithmetic functions of 00_scope.md R7 do, once each. -/

namespace Sys2Proof.Machine

theorem sat32_ge (v : Int) : -2147483648 ≤ sat32 v := by unfold sat32; omega

theorem sat32_le (v : Int) : sat32 v ≤ 2147483647 := by unfold sat32; omega

theorem sat32_of_mem (v : Int) (h₁ : -2147483648 ≤ v) (h₂ : v ≤ 2147483647) : sat32 v = v := by
  unfold sat32; omega

theorem sat32_mono {a b : Int} (h : a ≤ b) : sat32 a ≤ sat32 b := by unfold sat32; omega

/-- Floor division by a positive divisor is the library's division. -/
theorem fdiv_eq_div (a : Int) {b : Int} (hb : 0 ≤ b) : fdiv a b = a / b := Int.fdiv_eq_ediv_of_nonneg a hb

theorem fdiv_mono {a b c : Int} (hc : 0 < c) (h : a ≤ b) : fdiv a c ≤ fdiv b c := by
  rw [fdiv_eq_div a hc.le, fdiv_eq_div b hc.le]; exact Int.ediv_le_ediv hc h

/-- An `fx` number survives a write to a 32-bit register and the read back. -/
theorem fxOf_pattern32 (v : Int) (h₁ : -2147483648 ≤ v) (h₂ : v ≤ 2147483647) : fxOf (pattern32 v) = v := by
  unfold fxOf pattern32
  rw [BitVec.toInt_ofInt]
  exact Int.bmod_eq_of_le (by omega) (by omega)

/-- An unsigned number survives a write to a 32-bit register and the read back. -/
theorem unsignedOf_pattern32 (v : Int) (h₁ : 0 ≤ v) (h₂ : v < 2 ^ 32) : unsignedOf (pattern32 v) = v := by
  unfold unsignedOf pattern32
  rw [BitVec.toNat_ofInt, Int.toNat_of_nonneg (by omega)]
  omega

/-- An accumulator value survives a write to the 48-bit accumulator and the read back. -/
theorem toInt_pattern48 (v : Int) (h₁ : -140737488355328 ≤ v) (h₂ : v < 140737488355328) :
    (pattern48 v).toInt = v := by
  unfold pattern48
  rw [BitVec.toInt_ofInt]
  exact Int.bmod_eq_of_le (by omega) (by omega)

end Sys2Proof.Machine
end

