-- ==== Sys2Proof/Laws/Decode.lean ====
section
/-! SUPPORT. The fields of a command word that is written as opcode and operand, for proofs about the decoder. -/

namespace Sys2Proof.Machine

/-- The high part of a joined word. -/
theorem extractLsb'_append_high {n m : Nat} (x : BitVec n) (y : BitVec m) : (x ++ y).extractLsb' m n = x := by
  apply BitVec.eq_of_getLsbD_eq
  intro i hi
  simp [BitVec.getLsbD_append, hi]

/-- The low part of a joined word. -/
theorem extractLsb'_append_low {n m : Nat} (x : BitVec n) (y : BitVec m) : (x ++ y).extractLsb' 0 m = y := by
  apply BitVec.eq_of_getLsbD_eq
  intro i hi
  simp [BitVec.getLsbD_append, hi]

/-- A word is its high part joined to its low part. -/
theorem extractLsb'_append_self {n m : Nat} (w : BitVec (n + m)) : w.extractLsb' m n ++ w.extractLsb' 0 m = w := by
  apply BitVec.eq_of_getLsbD_eq
  intro i hi
  simp only [BitVec.getLsbD_append, BitVec.getLsbD_extractLsb']
  split
  · next h => simp [h]
  · next h =>
    have : i - m < n := by omega
    have : m + (i - m) = i := by omega
    simp [*]

@[simp] theorem opcodeField_append (opc : BitVec 8) (op : Word) : opcodeField (opc ++ op) = opc :=
  extractLsb'_append_high opc op

@[simp] theorem opField_append (opc : BitVec 8) (op : Word) : opField (opc ++ op) = op := extractLsb'_append_low opc op

/-- Every command word is an opcode joined to an operand (30_encoding.md R80). -/
theorem opcodeField_append_opField (w : CommandWord) : (opcodeField w ++ opField w : CommandWord) = w :=
  extractLsb'_append_self (n := 8) (m := 32) w

@[simp] theorem classField_append (c : BitVec 2) (r : BitVec 6) : classField (c ++ r) = c := extractLsb'_append_high c r

@[simp] theorem registerField_append (c : BitVec 2) (r : BitVec 6) : registerField (c ++ r) = r :=
  extractLsb'_append_low c r

/-- The decoder, by opcode and operand. -/
theorem decode_append (opc : BitVec 8) (op : Word) :
    decode (opc ++ op) =
      if classField opc = 0#2 then decodeOperation opc op
      else if classField opc = 1#2 then .ok (.wrcfg (registerField opc) op)
      else if classField opc = 2#2 then decodeRead (registerField opc) op
      else .error .reservedOpcode := by
  simp only [decode, opcodeField_append, opField_append]

theorem decode_commandWord (opc : BitVec 8) (op : Word) : decode (commandWord opc op) = decode (opc ++ op) := rfl

/-- The fields of format K, from their layout (30_encoding.md R83). -/
theorem noteField_layout (vel note : BitVec 8) : noteField (0#16 ++ vel ++ note) = note :=
  extractLsb'_append_low (0#16 ++ vel) note

/-- A joined word as a number. -/
theorem toNat_join {n m : Nat} (x : BitVec n) (y : BitVec m) : (x ++ y).toNat = x.toNat * 2 ^ m + y.toNat := by
  rw [BitVec.toNat_append, ← Nat.shiftLeft_add_eq_or_of_lt y.isLt, Nat.shiftLeft_eq]

theorem toNat_formatK (vel note : BitVec 8) : (0#16 ++ vel ++ note : Word).toNat = vel.toNat * 256 + note.toNat := by
  refine (toNat_join (0#16 ++ vel) note).trans ?_
  rw [toNat_join, BitVec.toNat_ofNat]
  omega

theorem velField_layout (vel note : BitVec 8) : velField (0#16 ++ vel ++ note) = vel := by
  apply BitVec.eq_of_toNat_eq
  rw [velField, BitVec.extractLsb'_toNat, toNat_formatK, Nat.shiftRight_eq_div_pow]
  omega

theorem formatK_layout (vel note : BitVec 8) : formatK (0#16 ++ vel ++ note) = true := by
  rw [formatK, decide_eq_true_eq]
  apply BitVec.eq_of_toNat_eq
  rw [BitVec.extractLsb'_toNat, toNat_formatK, Nat.shiftRight_eq_div_pow, BitVec.toNat_ofNat]
  omega

theorem formatK_high_zero (bend : BitVec 16) : formatK (0#16 ++ bend) = true := by
  rw [formatK, decide_eq_true_eq]; exact extractLsb'_append_high 0#16 bend

theorem bendField_layout (bend : BitVec 16) : bendField (0#16 ++ bend) = bend := extractLsb'_append_low 0#16 bend

theorem formatK1_high_zero (note : BitVec 8) : formatK1 (0#24 ++ note) = true := by
  rw [formatK1, decide_eq_true_eq]; exact extractLsb'_append_high 0#24 note

theorem noteField_layout_K1 (note : BitVec 8) : noteField (0#24 ++ note) = note := extractLsb'_append_low 0#24 note

/-- A command word of class 2 carries its register number. -/
theorem decode_read_word (r : BitVec 6) (op : Word) : decode (2#2 ++ r ++ op) = decodeRead r op := by
  have h := decode_append (2#2 ++ r) op
  simp only [classField_append, registerField_append] at h
  exact h

/-- A command word of class 1 carries its register number and its value. -/
theorem decode_write_word (r : BitVec 6) (op : Word) : decode (1#2 ++ r ++ op) = .ok (.wrcfg r op) := by
  have h := decode_append (1#2 ++ r) op
  simp only [classField_append, registerField_append] at h
  exact h

end Sys2Proof.Machine
end

