-- ==== Sys2Proof/Laws/State.lean ====
section
/-! SUPPORT. One lemma per field per update of the state, so that no later proof unfolds a record update. -/

namespace Sys2Proof.Machine

@[simp] theorem State.setSys_sys (s : State) (x : SystemUnit) : (s.setSys x).sys = x := rfl
@[simp] theorem State.setSys_env (s : State) (x : SystemUnit) : (s.setSys x).env = s.env := rfl
@[simp] theorem State.setSys_lfo (s : State) (x : SystemUnit) : (s.setSys x).lfo = s.lfo := rfl
@[simp] theorem State.setSys_map (s : State) (x : SystemUnit) : (s.setSys x).map = s.map := rfl
@[simp] theorem State.setSys_tab (s : State) (x : SystemUnit) : (s.setSys x).tab = s.tab := rfl
@[simp] theorem State.setSys_mem (s : State) (x : SystemUnit) : (s.setSys x).mem = s.mem := rfl
@[simp] theorem State.setSys_inbox (s : State) (x : SystemUnit) : (s.setSys x).inbox = s.inbox := rfl
@[simp] theorem State.setSys_response (s : State) (x : SystemUnit) : (s.setSys x).response = s.response := rfl

@[simp] theorem State.setEnv_sys (s : State) (x : Envelope) : (s.setEnv x).sys = s.sys := rfl
@[simp] theorem State.setEnv_env (s : State) (x : Envelope) : (s.setEnv x).env = x := rfl
@[simp] theorem State.setEnv_lfo (s : State) (x : Envelope) : (s.setEnv x).lfo = s.lfo := rfl
@[simp] theorem State.setEnv_map (s : State) (x : Envelope) : (s.setEnv x).map = s.map := rfl
@[simp] theorem State.setEnv_tab (s : State) (x : Envelope) : (s.setEnv x).tab = s.tab := rfl
@[simp] theorem State.setEnv_mem (s : State) (x : Envelope) : (s.setEnv x).mem = s.mem := rfl
@[simp] theorem State.setEnv_inbox (s : State) (x : Envelope) : (s.setEnv x).inbox = s.inbox := rfl
@[simp] theorem State.setEnv_response (s : State) (x : Envelope) : (s.setEnv x).response = s.response := rfl

@[simp] theorem State.setLfo_sys (s : State) (x : Lfo) : (s.setLfo x).sys = s.sys := rfl
@[simp] theorem State.setLfo_env (s : State) (x : Lfo) : (s.setLfo x).env = s.env := rfl
@[simp] theorem State.setLfo_lfo (s : State) (x : Lfo) : (s.setLfo x).lfo = x := rfl
@[simp] theorem State.setLfo_map (s : State) (x : Lfo) : (s.setLfo x).map = s.map := rfl
@[simp] theorem State.setLfo_tab (s : State) (x : Lfo) : (s.setLfo x).tab = s.tab := rfl
@[simp] theorem State.setLfo_mem (s : State) (x : Lfo) : (s.setLfo x).mem = s.mem := rfl
@[simp] theorem State.setLfo_inbox (s : State) (x : Lfo) : (s.setLfo x).inbox = s.inbox := rfl
@[simp] theorem State.setLfo_response (s : State) (x : Lfo) : (s.setLfo x).response = s.response := rfl

@[simp] theorem State.setMap_sys (s : State) (x : Mapper) : (s.setMap x).sys = s.sys := rfl
@[simp] theorem State.setMap_env (s : State) (x : Mapper) : (s.setMap x).env = s.env := rfl
@[simp] theorem State.setMap_lfo (s : State) (x : Mapper) : (s.setMap x).lfo = s.lfo := rfl
@[simp] theorem State.setMap_map (s : State) (x : Mapper) : (s.setMap x).map = x := rfl
@[simp] theorem State.setMap_tab (s : State) (x : Mapper) : (s.setMap x).tab = s.tab := rfl
@[simp] theorem State.setMap_mem (s : State) (x : Mapper) : (s.setMap x).mem = s.mem := rfl
@[simp] theorem State.setMap_inbox (s : State) (x : Mapper) : (s.setMap x).inbox = s.inbox := rfl
@[simp] theorem State.setMap_response (s : State) (x : Mapper) : (s.setMap x).response = s.response := rfl

@[simp] theorem State.setTab_sys (s : State) (x : TabAddr) : (s.setTab x).sys = s.sys := rfl
@[simp] theorem State.setTab_env (s : State) (x : TabAddr) : (s.setTab x).env = s.env := rfl
@[simp] theorem State.setTab_lfo (s : State) (x : TabAddr) : (s.setTab x).lfo = s.lfo := rfl
@[simp] theorem State.setTab_map (s : State) (x : TabAddr) : (s.setTab x).map = s.map := rfl
@[simp] theorem State.setTab_tab (s : State) (x : TabAddr) : (s.setTab x).tab = x := rfl
@[simp] theorem State.setTab_mem (s : State) (x : TabAddr) : (s.setTab x).mem = s.mem := rfl
@[simp] theorem State.setTab_inbox (s : State) (x : TabAddr) : (s.setTab x).inbox = s.inbox := rfl
@[simp] theorem State.setTab_response (s : State) (x : TabAddr) : (s.setTab x).response = s.response := rfl

@[simp] theorem State.setMem_sys (s : State) (x : Memory) : (s.setMem x).sys = s.sys := rfl
@[simp] theorem State.setMem_env (s : State) (x : Memory) : (s.setMem x).env = s.env := rfl
@[simp] theorem State.setMem_lfo (s : State) (x : Memory) : (s.setMem x).lfo = s.lfo := rfl
@[simp] theorem State.setMem_map (s : State) (x : Memory) : (s.setMem x).map = s.map := rfl
@[simp] theorem State.setMem_tab (s : State) (x : Memory) : (s.setMem x).tab = s.tab := rfl
@[simp] theorem State.setMem_mem (s : State) (x : Memory) : (s.setMem x).mem = x := rfl
@[simp] theorem State.setMem_inbox (s : State) (x : Memory) : (s.setMem x).inbox = s.inbox := rfl
@[simp] theorem State.setMem_response (s : State) (x : Memory) : (s.setMem x).response = s.response := rfl

@[simp] theorem State.setInbox_sys (s : State) (x : List Input) : (s.setInbox x).sys = s.sys := rfl
@[simp] theorem State.setInbox_env (s : State) (x : List Input) : (s.setInbox x).env = s.env := rfl
@[simp] theorem State.setInbox_lfo (s : State) (x : List Input) : (s.setInbox x).lfo = s.lfo := rfl
@[simp] theorem State.setInbox_map (s : State) (x : List Input) : (s.setInbox x).map = s.map := rfl
@[simp] theorem State.setInbox_tab (s : State) (x : List Input) : (s.setInbox x).tab = s.tab := rfl
@[simp] theorem State.setInbox_mem (s : State) (x : List Input) : (s.setInbox x).mem = s.mem := rfl
@[simp] theorem State.setInbox_inbox (s : State) (x : List Input) : (s.setInbox x).inbox = x := rfl
@[simp] theorem State.setInbox_response (s : State) (x : List Input) : (s.setInbox x).response = s.response := rfl

@[simp] theorem State.setResponse_sys (s : State) (x : Option Response) : (s.setResponse x).sys = s.sys := rfl
@[simp] theorem State.setResponse_env (s : State) (x : Option Response) : (s.setResponse x).env = s.env := rfl
@[simp] theorem State.setResponse_lfo (s : State) (x : Option Response) : (s.setResponse x).lfo = s.lfo := rfl
@[simp] theorem State.setResponse_map (s : State) (x : Option Response) : (s.setResponse x).map = s.map := rfl
@[simp] theorem State.setResponse_tab (s : State) (x : Option Response) : (s.setResponse x).tab = s.tab := rfl
@[simp] theorem State.setResponse_mem (s : State) (x : Option Response) : (s.setResponse x).mem = s.mem := rfl
@[simp] theorem State.setResponse_inbox (s : State) (x : Option Response) : (s.setResponse x).inbox = s.inbox := rfl
@[simp] theorem State.setResponse_response (s : State) (x : Option Response) : (s.setResponse x).response = x := rfl

end Sys2Proof.Machine
end

