-- ==== Sys2Proof/Laws/Ops.lean ====
section
/-! SUPPORT. What each shared operation can do, once: later proofs cite these instead of unfolding it. -/

namespace Sys2Proof.Machine

/-- A response changes the response alone. -/
theorem respond_eq (v : Word) (s : State) : respond v s = .next { s with response := some ⟨.ok, v⟩ } := rfl

/-- An error changes the response alone. -/
theorem raise_eq (st : Status) (info : Word) (s : State) : raise st info s = .next { s with response := some ⟨st, info⟩ } :=
  rfl

theorem raiseIllegal_eq (c : IllegalCause) (s : State) :
    raiseIllegal c s = .next { s with response := some ⟨.illegal, illegalInfo c⟩ } := rfl

theorem raiseRange_eq (f : RangeField) (s : State) :
    raiseRange f s = .next { s with response := some ⟨.valueOutOfRange, rangeInfo f⟩ } := rfl

theorem raiseMode_eq (s : State) :
    raiseMode s = .next { s with response := some ⟨.modeError, (modeCode s.sys.mode).setWidth 32⟩ } := rfl

theorem raiseConfiguration_eq (mask : BitVec 3) (s : State) :
    raiseConfiguration mask s = .next { s with response := some ⟨.configurationError, mask.setWidth 32⟩ } := rfl

theorem inMode_of_eq {m : Mode} {s : State} (h : s.sys.mode = m) (body : Result) : inMode m s body = body := if_pos h

theorem inMode_of_ne {m : Mode} {s : State} (h : s.sys.mode ≠ m) (body : Result) :
    inMode m s body = .next { s with response := some ⟨.modeError, (modeCode s.sys.mode).setWidth 32⟩ } := if_neg h

/-- The mode check: the command is performed in its mode, or answered `MODE_ERROR` with nothing else changed. -/
theorem inMode_cases {m : Mode} {s t : State} {body : Result} (h : inMode m s body = .next t) :
    (s.sys.mode = m ∧ body = .next t) ∨
      (s.sys.mode ≠ m ∧ t = { s with response := some ⟨.modeError, (modeCode s.sys.mode).setWidth 32⟩ }) := by
  by_cases hm : s.sys.mode = m
  · exact .inl ⟨hm, by rwa [inMode_of_eq hm] at h⟩
  · rw [inMode_of_ne hm] at h
    exact .inr ⟨hm, (Host.Outcome.next.inj h).symm⟩

/-- The deadline branch of the curve step (00_scope.md R9). -/
theorem segStep_deadline {rem : Word} (h : rem.toNat ≤ 1) (P : Params) (cur tgt : Int) (curve : Curve) (dur : Word) :
    segStep P cur tgt rem curve dur = (tgt, 0#32, true) := if_pos h

theorem segStep_linear {rem : Word} (h : 1 < rem.toNat) (P : Params) (cur tgt : Int) (dur : Word) :
    segStep P cur tgt rem .linear dur = (cur + tdiv (tgt - cur) rem.toNat, rem - 1#32, false) :=
  if_neg (Nat.not_le.mpr h)

theorem segStep_exponential {rem : Word} (h : 1 < rem.toNat) (P : Params) (cur tgt : Int) (dur : Word) :
    segStep P cur tgt rem .exponential dur = (cur + mulrate (tgt - cur) (P.expRate dur), rem - 1#32, false) :=
  if_neg (Nat.not_le.mpr h)

/-- A note's pitch is an `fx` number, so it survives its register. -/
theorem fxOf_noteTarget (m : Mapper) (mem : Memory) (n : Nat) : fxOf (pattern32 (noteTarget m mem n)) = noteTarget m mem n :=
  fxOf_pattern32 _ (sat32_ge _) (sat32_le _)

/-- A note's pitch depends on the scale, the zero note and the trims alone (43_midi_to_cv.md R155). -/
theorem noteTarget_congr {m m' : Mapper} (hs : m.scale = m'.scale) (hz : m.zeroNote = m'.zeroNote) (mem : Memory) (n : Nat) :
    noteTarget m mem n = noteTarget m' mem n := by simp only [noteTarget, hs, hz]

/-- Each bit of the construction check is its own condition (40_clock_and_lifecycle.md R103). -/
theorem configCheck_bit0 (s : State) : (configCheck s).getLsbD 0 = decide (s.sys.tickPeriod = 0#32) := by
  unfold configCheck
  cases trimNonMonotone s.map s.mem <;> cases decide (fxOf s.map.scale ≤ 0) <;>
    cases decide (s.sys.tickPeriod = 0#32) <;> rfl

theorem configCheck_bit1 (s : State) : (configCheck s).getLsbD 1 = decide (fxOf s.map.scale ≤ 0) := by
  unfold configCheck
  cases trimNonMonotone s.map s.mem <;> cases decide (fxOf s.map.scale ≤ 0) <;>
    cases decide (s.sys.tickPeriod = 0#32) <;> rfl

theorem configCheck_bit2 (s : State) : (configCheck s).getLsbD 2 = trimNonMonotone s.map s.mem := by
  unfold configCheck
  cases trimNonMonotone s.map s.mem <;> cases decide (fxOf s.map.scale ≤ 0) <;>
    cases decide (s.sys.tickPeriod = 0#32) <;> rfl

theorem trimNonMonotone_eq_false_iff (m : Mapper) (mem : Memory) :
    trimNonMonotone m mem = false ↔ ∀ n < 127, noteTarget m mem n ≤ noteTarget m mem (n + 1) := by
  simp [trimNonMonotone, List.any_eq_false]

/-- The reset input (70_reset_and_hazards.md R210). -/
theorem takeReset_eq (s : State) : takeReset s = { State.reset with inbox := s.inbox } := rfl

/-- Taking the next input. -/
theorem fetchInput_nil {s : State} (h : s.inbox = []) : fetchInput s = none := by simp [fetchInput, h]

theorem fetchInput_cons {s : State} {x : Input} {rest : List Input} (h : s.inbox = x :: rest) :
    fetchInput s = some (x, { s with inbox := rest }) := by simp [fetchInput, h, State.setInbox]

end Sys2Proof.Machine
end

