-- ==== Sys2Proof/Laws/PerInstr.lean ====
section
/-! SUPPORT. Statements about every instruction, one lemma per constructor: an encoding lies in its own row of the opcode
table (30_encoding.md R84). -/

namespace Sys2Proof.Laws

/-- The encoding of an instruction shows the fixed bits of its row. -/
def EncodingInRow.Statement (i : Instr) : Prop := encode i &&& (opcodeRow i).2 = (opcodeRow i).1

/-- A command word under a mask is its opcode and its operand under the two parts of the mask. -/
theorem commandWord_and (opc m : BitVec 8) (op n : Word) :
    commandWord opc op &&& commandWord m n = commandWord (opc &&& m) (op &&& n) := BitVec.and_append

theorem EncodingInRow.init : EncodingInRow.Statement .init := by unfold EncodingInRow.Statement; decide

theorem EncodingInRow.tick : EncodingInRow.Statement .tick := by unfold EncodingInRow.Statement; decide

theorem EncodingInRow.envGate (on : Bool) : EncodingInRow.Statement (.envGate on) := by
  unfold EncodingInRow.Statement; cases on <;> decide

theorem EncodingInRow.envAdv : EncodingInRow.Statement .envAdv := by unfold EncodingInRow.Statement; decide

theorem EncodingInRow.lfoSetf (value : Word) : EncodingInRow.Statement (.lfoSetf value) := by
  change commandWord 0x20#8 value &&& commandWord 0xFF#8 0#32 = commandWord 0x20#8 0#32
  rw [commandWord_and, BitVec.and_zero]; rfl

theorem EncodingInRow.lfoAdv : EncodingInRow.Statement .lfoAdv := by unfold EncodingInRow.Statement; decide

theorem EncodingInRow.lfoSync : EncodingInRow.Statement .lfoSync := by unfold EncodingInRow.Statement; decide

theorem EncodingInRow.mapNoteon (note vel : BitVec 8) : EncodingInRow.Statement (.mapNoteon note vel) := by
  change commandWord 0x30#8 (0#16 ++ vel ++ note) &&& commandWord 0xFF#8 (0xFFFF#16 ++ 0#8 ++ 0#8) = commandWord 0x30#8 0#32
  rw [commandWord_and, BitVec.and_append, BitVec.and_append, BitVec.and_zero, BitVec.and_zero]; rfl

theorem EncodingInRow.mapAdv : EncodingInRow.Statement .mapAdv := by unfold EncodingInRow.Statement; decide

theorem EncodingInRow.mapNoteoff (note : BitVec 8) : EncodingInRow.Statement (.mapNoteoff note) := by
  change commandWord 0x32#8 (0#24 ++ note) &&& commandWord 0xFF#8 (0xFFFFFF#24 ++ 0#8) = commandWord 0x32#8 0#32
  rw [commandWord_and, BitVec.and_append, BitVec.and_zero]; rfl

theorem EncodingInRow.mapBend (bend : BitVec 16) : EncodingInRow.Statement (.mapBend bend) := by
  change commandWord 0x33#8 (0#16 ++ bend) &&& commandWord 0xFF#8 (0xFFFF#16 ++ 0#16) = commandWord 0x33#8 0#32
  rw [commandWord_and, BitVec.and_append, BitVec.and_zero]; rfl

theorem EncodingInRow.wrcfg (r : BitVec 6) (value : Word) : EncodingInRow.Statement (.wrcfg r value) := by
  change commandWord (1#2 ++ r) value &&& commandWord (3#2 ++ 0#6) 0#32 = commandWord 0x40#8 0#32
  rw [commandWord_and, BitVec.and_append, BitVec.and_zero, BitVec.and_zero]; rfl

theorem EncodingInRow.rdreg (r : BitVec 6) : EncodingInRow.Statement (.rdreg r) := by
  change commandWord (2#2 ++ r) 0#32 &&& commandWord (3#2 ++ 0#6) 0xFFFFFFFF#32 = commandWord 0x80#8 0#32
  rw [commandWord_and, BitVec.and_append, BitVec.and_zero, BitVec.zero_and]; rfl

end Sys2Proof.Laws
end

