-- ==== Sys2Proof/Laws/Registers.lean ====
section
/-! SUPPORT. The register map read both ways (10_state.md R21). -/

namespace Sys2Proof.Machine

/-- Every register is found under its number. -/
@[simp] theorem regOfNumber_regNumber (x : Reg) : regOfNumber (regNumber x) = some x := by cases x <;> rfl

/-- The register found under a number has that number. -/
theorem regNumber_of_regOfNumber {r : BitVec 6} {x : Reg} (h : regOfNumber r = some x) : regNumber x = r := by
  simpa using List.find?_some h

theorem regNumber_injective {x y : Reg} (h : regNumber x = regNumber y) : x = y := by
  have := congrArg regOfNumber h
  simpa using this

end Sys2Proof.Machine
end

