-- ==== Sys2Proof/Laws/Step.lean ====
section
/-! SUPPORT. What one step can do, by the input that waits. -/

namespace Sys2Proof.Machine

theorem performWord_of_ok {w : CommandWord} {i : Instr} (h : decode w = .ok i) (s : State) : performWord w s = exec i s := by
  simp [performWord, h]

theorem performWord_of_error {w : CommandWord} {c : IllegalCause} (h : decode w = .error c) (s : State) :
    performWord w s = raiseIllegal c s := by simp [performWord, h]

/-- The step of a state with a command waiting. -/
theorem step_command {s : State} {w : CommandWord} {rest : List Input} (h : s.inbox = .command w :: rest) :
    step s = performWord w { s with inbox := rest } := by simp [step, fetchInput_cons h]

theorem fetchInput_withFetchWord (s : State) (nbits w : Nat) :
    fetchInput (s.withFetchWord nbits w) = some (.command (BitVec.ofNat 40 (w % 2 ^ nbits)), s) := by
  simp [State.withFetchWord, fetchInput, State.setInbox]

/-- The command placed by `withFetchWord` is the one the next step takes, on the state it was placed in. -/
theorem step_withFetchWord (s : State) (nbits w : Nat) :
    step (s.withFetchWord nbits w) = performWord (BitVec.ofNat 40 (w % 2 ^ nbits)) s := by
  simp [step, fetchInput_withFetchWord]

end Sys2Proof.Machine
end

