-- ==== Sys2Proof/Laws/Tables.lean ====
section
/-! SUPPORT. The tables: a read after a write, the frame of a write, and that every write keeps the canonical form. -/

namespace Sys2Proof.Machine

/-- A table whose indices start at `low` lists nothing below it. -/
theorem tableRead_below {t : Table} {low i : Nat} (h : tableWfFrom low t = true) (hi : i < low) :
    tableRead t i = tableUnlisted := by
  induction t generalizing low with
  | nil => rfl
  | cons c rest ih =>
    obtain ⟨k, v⟩ := c
    simp only [tableWfFrom, Bool.and_eq_true, decide_eq_true_eq] at h
    have hne : ¬ i = k := by omega
    simp only [tableRead, if_neg hne]
    exact ih h.2 (by omega)

theorem tableRead_cell_append_same {low i : Nat} {t : Table} (h : tableWfFrom low t = true) (hi : i < low) (v : Word) :
    tableRead (tableCell i v ++ t) i = v := by
  unfold tableCell
  split
  · next hv => simpa [hv] using tableRead_below h hi
  · simp [tableRead]

theorem tableRead_cell_append_other {i j : Nat} (h : j ≠ i) (v : Word) (t : Table) :
    tableRead (tableCell i v ++ t) j = tableRead t j := by
  unfold tableCell
  split
  · rfl
  · simp [tableRead, h]

theorem tableWfFrom_weaken {low low' : Nat} {t : Table} (h : tableWfFrom low t = true) (hl : low' ≤ low) :
    tableWfFrom low' t = true := by
  cases t with
  | nil => rfl
  | cons c rest =>
    obtain ⟨k, v⟩ := c
    simp only [tableWfFrom, Bool.and_eq_true, decide_eq_true_eq] at h ⊢
    exact ⟨⟨⟨by omega, h.1.1.2⟩, h.1.2⟩, h.2⟩

theorem tableWfFrom_cell_append {low i : Nat} {t : Table} (h : tableWfFrom (i + 1) t = true) (hl : low ≤ i)
    (hi : i < 128) (v : Word) : tableWfFrom low (tableCell i v ++ t) = true := by
  unfold tableCell
  split
  · exact tableWfFrom_weaken h (by omega)
  · next hv => simp [tableWfFrom, hl, hi, hv, h]

theorem tableRead_tableWrite_same_from {t : Table} {low : Nat} (h : tableWfFrom low t = true) (i : Nat) (v : Word) :
    tableRead (tableWrite t i v) i = v := by
  induction t generalizing low with
  | nil => simpa [tableWrite] using tableRead_cell_append_same (low := i + 1) (t := []) rfl (by omega) v
  | cons c rest ih =>
    obtain ⟨k, x⟩ := c
    have h' := h
    simp only [tableWfFrom, Bool.and_eq_true, decide_eq_true_eq] at h
    simp only [tableWrite]
    split
    · next hlt => exact tableRead_cell_append_same (low := k) (tableWfFrom_weaken (low := k)
        (by simp only [tableWfFrom, Bool.and_eq_true, decide_eq_true_eq]; exact ⟨⟨⟨le_refl _, h.1.1.2⟩, h.1.2⟩, h.2⟩)
        (le_refl _)) hlt v
    · split
      · next he => subst he; exact tableRead_cell_append_same h.2 (by omega) v
      · next hne => simpa [tableRead, hne] using ih h.2

/-- A read after a write of the same entry gives the value written (20_memory.md R60). -/
theorem tableRead_tableWrite_same {t : Table} (h : tableWf t = true) (i : Nat) (v : Word) :
    tableRead (tableWrite t i v) i = v := tableRead_tableWrite_same_from h i v

/-- A write leaves every other entry alone (20_memory.md R60). -/
theorem tableRead_tableWrite_other {i j : Nat} (h : j ≠ i) (v : Word) (t : Table) :
    tableRead (tableWrite t i v) j = tableRead t j := by
  induction t with
  | nil => simpa [tableWrite] using tableRead_cell_append_other h v []
  | cons c rest ih =>
    obtain ⟨k, x⟩ := c
    simp only [tableWrite]
    split
    · exact tableRead_cell_append_other h v _
    · split
      · next he => subst he; rw [tableRead_cell_append_other h]; simp [tableRead, h]
      · simp only [tableRead, ih]

theorem tableWfFrom_tableWrite {t : Table} {low i : Nat} (h : tableWfFrom low t = true) (hl : low ≤ i) (hi : i < 128)
    (v : Word) : tableWfFrom low (tableWrite t i v) = true := by
  induction t generalizing low with
  | nil => simpa [tableWrite] using tableWfFrom_cell_append (t := []) rfl hl hi v
  | cons c rest ih =>
    obtain ⟨k, x⟩ := c
    simp only [tableWfFrom, Bool.and_eq_true, decide_eq_true_eq] at h
    simp only [tableWrite]
    split
    · refine tableWfFrom_cell_append ?_ hl hi v
      simp only [tableWfFrom, Bool.and_eq_true, decide_eq_true_eq]
      exact ⟨⟨⟨by omega, h.1.1.2⟩, h.1.2⟩, h.2⟩
    · split
      · next he => subst he; exact tableWfFrom_cell_append h.2 hl hi v
      · simp only [tableWfFrom, Bool.and_eq_true, decide_eq_true_eq]
        exact ⟨h.1, ih h.2 (by omega)⟩

/-- A write keeps a table canonical. -/
theorem tableWf_tableWrite {t : Table} (h : tableWf t = true) {i : Nat} (hi : i < 128) (v : Word) :
    tableWf (tableWrite t i v) = true := tableWfFrom_tableWrite h (Nat.zero_le i) hi v

/-- The one memory operation that writes keeps both tables canonical. -/
theorem memWrite_wf {m : Memory} (h : m.wf = true) (space : TableSel) {i : Nat} (hi : i < 128) (v : Word) :
    (memWrite m space i v).wf = true := by
  simp only [Memory.wf, Bool.and_eq_true] at h ⊢
  cases space with
  | trim => exact ⟨tableWf_tableWrite h.1 hi v, h.2⟩
  | vlut => exact ⟨h.1, tableWf_tableWrite h.2 hi v⟩

theorem memRead_memWrite_same {m : Memory} (h : m.wf = true) (space : TableSel) (i : Nat) (v : Word) :
    memRead (memWrite m space i v) space i = v := by
  simp only [Memory.wf, Bool.and_eq_true] at h
  cases space with
  | trim => exact tableRead_tableWrite_same h.1 i v
  | vlut => exact tableRead_tableWrite_same h.2 i v

theorem memRead_memWrite_other (m : Memory) {space space' : TableSel} {i j : Nat} (h : space' ≠ space ∨ j ≠ i) (v : Word) :
    memRead (memWrite m space i v) space' j = memRead m space' j := by
  cases space <;> cases space' <;> simp_all [memRead, memWrite, tableRead_tableWrite_other]

theorem reset_memory_wf : State.reset.mem.wf = true := by decide

end Sys2Proof.Machine
end

