-- ==== Sys2Proof/Machine/Assembler.lean ====
section
/-! DEFINITION. The spec's way of writing a command (30_encoding.md R88): the assembler line and the ten hexadecimal
digits of the encoding. Nothing of the machine depends on it. -/

namespace Sys2Proof.Machine

/-- A register's name (10_state.md R21). -/
def regName : Reg → String
  | .id => "ID"
  | .status => "STATUS"
  | .tickPeriod => "TICK_PERIOD"
  | .tickCount => "TICK_COUNT"
  | .elapsedS => "ELAPSED_S"
  | .elapsedFrac => "ELAPSED_FRAC"
  | .envCtrl => "ENV_CTRL"
  | .envAttackT => "ENV_ATTACK_T"
  | .envDecayT => "ENV_DECAY_T"
  | .envSustain => "ENV_SUSTAIN"
  | .envReleaseT => "ENV_RELEASE_T"
  | .envState => "ENV_STATE"
  | .envLevel => "ENV_LEVEL"
  | .envTarget => "ENV_TARGET"
  | .envRemain => "ENV_REMAIN"
  | .lfoCtrl => "LFO_CTRL"
  | .lfoFreq => "LFO_FREQ"
  | .lfoAmp => "LFO_AMP"
  | .lfoOffset => "LFO_OFFSET"
  | .lfoDuty => "LFO_DUTY"
  | .lfoSeed => "LFO_SEED"
  | .lfoPhase => "LFO_PHASE"
  | .lfoHold => "LFO_HOLD"
  | .lfoRng => "LFO_RNG"
  | .lfoValue => "LFO_VALUE"
  | .mapCtrl => "MAP_CTRL"
  | .mapScale => "MAP_SCALE"
  | .mapZeroNote => "MAP_ZERO_NOTE"
  | .mapBendRange => "MAP_BEND_RANGE"
  | .mapGlideT => "MAP_GLIDE_T"
  | .tabAddr => "TAB_ADDR"
  | .tabData => "TAB_DATA"
  | .mapNote => "MAP_NOTE"
  | .mapBend => "MAP_BEND"
  | .mapTarget => "MAP_TARGET"
  | .mapSlewRemain => "MAP_SLEW_REMAIN"
  | .mapNoteCv => "MAP_NOTE_CV"
  | .mapNoteFrac => "MAP_NOTE_FRAC"
  | .mapPitchCv => "MAP_PITCH_CV"
  | .mapVelCv => "MAP_VEL_CV"

/-- A register operand: the name of a register in use, else the number. -/
def regOperand (r : BitVec 6) : String :=
  match regOfNumber r with
  | some x => regName x
  | none => toString r.toNat

/-- The assembler line of a command, operands in decimal (R88). -/
def assemblerLine : Instr → String
  | .init => "INIT"
  | .tick => "TICK"
  | .envGate on => if on then "ENV.GATE 1" else "ENV.GATE 0"
  | .envAdv => "ENV.ADV"
  | .lfoSetf value => "LFO.SETF " ++ toString value.toNat
  | .lfoAdv => "LFO.ADV"
  | .lfoSync => "LFO.SYNC"
  | .mapNoteon note vel => "MAP.NOTEON " ++ toString note.toNat ++ ", " ++ toString vel.toNat
  | .mapAdv => "MAP.ADV"
  | .mapNoteoff note => "MAP.NOTEOFF " ++ toString note.toNat
  | .mapBend bend => "MAP.BEND " ++ toString bend.toInt
  | .wrcfg r value => "WRCFG " ++ regOperand r ++ ", " ++ toString value.toNat
  | .rdreg r => "RDREG " ++ regOperand r

/-- One hexadecimal digit. -/
def hexDigit (d : Nat) : Char := "0123456789ABCDEF".toList.getD d '0'

/-- The low `n` hexadecimal digits of a number, most significant first. -/
def hexDigits : Nat → Nat → List Char
  | 0, _ => []
  | n + 1, v => hexDigits n (v / 16) ++ [hexDigit (v % 16)]

/-- The encoding of a line as `OO_DDDDDDDD`: opcode, operand (R88). -/
def hexLine (i : Instr) : List Char :=
  hexDigits 2 ((encode i).toNat / 2 ^ 32) ++ ['_'] ++ hexDigits 8 (encode i).toNat

end Sys2Proof.Machine
end

