-- ==== Sys2Proof/Tests/Slice0.lean ====
section
/-! SUPPORT. Tests. Expected words and results are the spec's (30_encoding.md R84, R88, R89; 95_test_vectors.md, part 2);
and for each statement with hypotheses one witness per clause that meets them. -/

open Sys2Proof Sys2Proof.Machine

namespace Sys2Proof.Tests

/-! ### Small states -/

/-- The standard bring-up of 95_test_vectors.md before `INIT`, with zero note 60 and bend range 2. -/
def configured : State :=
  { State.reset with
    sys := { State.reset.sys with tickPeriod := 0x00400000#32 }
    map := { State.reset.map with scale := 0x00010000#32, zeroNote := 60#7, bendRange := 2#8 } }

/-- The same, constructed. -/
def running : State := construct configured

/-- A failed block. -/
def failed : State := failConstruction 2#3 configured

/-- RUN mode with the given envelope. -/
def runningEnv (e : Envelope) : State := { running with env := e }

/-- The envelope of vector E1 in one of its states. -/
def envelopeE1 (phase : Phase) (gate : Bool) (level target remain : Word) : Envelope :=
  { running.env with
    attackT := 10#32, decayT := 5#32, sustain := 0x40000000#32, releaseT := 8#32
    phase := phase, gate := gate, level := level, target := target, remain := remain }

/-- RUN mode in the LFO setting of 95_test_vectors.md, 2.4, at a phase. -/
def runningLfo (phase : Word) : State :=
  { running with lfo := { running.lfo with freq := 0x01000000#32, amp := 0x00010000#32, phase := phase } }

/-- RUN mode with the glide of vector M5 under way. -/
def gliding (remain : Word) : State :=
  { running with map :=
    { running.map with
      glideEn := true, glideT := 4#32, note := 72#7, target := 0x00010000#32, slewRemain := remain } }

/-- The state a step answers, or the state before it. -/
def next (r : Result) (s : State) : State :=
  match r with
  | .next t => t
  | .fault _ => s
  | .refused _ => s

/-- The response to a command word. -/
def reply (w : CommandWord) (s : State) : Option Response := (next (performWord w s) s).response

/-! ### Well-formedness: each check refuses an ill-formed term -/

theorem test_wellFormed_refuses_write_of_reserved_register : WellFormed (.wrcfg 0x06#6 0#32) = false := by decide
theorem test_wellFormed_refuses_write_of_readonly_register : WellFormed (.wrcfg 0x19#6 0#32) = false := by decide
theorem test_wellFormed_refuses_must_be_zero_bit : WellFormed (.wrcfg 0x10#6 4#32) = false := by decide
theorem test_wellFormed_refuses_read_of_reserved_register : WellFormed (.rdreg 0x06#6) = false := by decide
theorem test_wellFormed_accepts_register_access :
    WellFormed (.wrcfg 0x10#6 3#32) = true ∧ WellFormed (.rdreg 0x19#6) = true := by decide

/-! ### Decoding: words written out from the table of R84 -/

theorem test_decode_init : decode 0b00000000_00000000000000000000000000000000#40 = .ok .init := by decide
theorem test_decode_tick : decode 0b00000001_00000000000000000000000000000000#40 = .ok .tick := by decide
theorem test_decode_envGate : decode 0b00010000_00000000000000000000000000000001#40 = .ok (.envGate true) := by decide
theorem test_decode_envAdv : decode 0b00010001_00000000000000000000000000000000#40 = .ok .envAdv := by decide
theorem test_decode_lfoSetf : decode 0b00100000_00000000000001010000000000000000#40 = .ok (.lfoSetf 0x00050000#32) := by
  decide
theorem test_decode_lfoAdv : decode 0b00100001_00000000000000000000000000000000#40 = .ok .lfoAdv := by decide
theorem test_decode_lfoSync : decode 0b00100010_00000000000000000000000000000000#40 = .ok .lfoSync := by decide
theorem test_decode_mapNoteon : decode 0b00110000_0000000000000000_01100100_01001000#40 = .ok (.mapNoteon 72#8 100#8) := by
  decide
theorem test_decode_mapAdv : decode 0b00110001_00000000000000000000000000000000#40 = .ok .mapAdv := by decide
theorem test_decode_mapNoteoff : decode 0b00110010_000000000000000000000000_01001000#40 = .ok (.mapNoteoff 72#8) := by decide
theorem test_decode_mapBend : decode 0b00110011_0000000000000000_1110000000000000#40 = .ok (.mapBend 0xE000#16) := by decide
theorem test_decode_wrcfg : decode 0b01_010001_00000000000000000000000000001010#40 = .ok (.wrcfg 0x11#6 10#32) := by decide
theorem test_decode_rdreg : decode 0b10_011001_00000000000000000000000000000000#40 = .ok (.rdreg 0x19#6) := by decide

/-- Vectors D1, D2, E12, L8: reserved opcodes, at the edges of each gap. -/
theorem test_decode_reserved_opcodes :
    decode 0xC000000000#40 = .error .reservedOpcode ∧ decode 0xFF00000000#40 = .error .reservedOpcode ∧
    decode 0x0200000000#40 = .error .reservedOpcode ∧ decode 0x0F00000000#40 = .error .reservedOpcode ∧
    decode 0x1200000000#40 = .error .reservedOpcode ∧ decode 0x1F00000000#40 = .error .reservedOpcode ∧
    decode 0x2300000000#40 = .error .reservedOpcode ∧ decode 0x2F00000000#40 = .error .reservedOpcode ∧
    decode 0x3400000000#40 = .error .reservedOpcode ∧ decode 0x3F00000000#40 = .error .reservedOpcode := by decide

/-- Vectors D3, D8, D9, E12, L8, M4, M7: must-be-zero bits; and a reserved register before an operand bit (R87). -/
theorem test_decode_format_errors :
    decode 0x1000000002#40 = .error .mustBeZero ∧ decode 0x1100000001#40 = .error .mustBeZero ∧
    decode 0x2100000001#40 = .error .mustBeZero ∧ decode 0x300001C8C8#40 = .error .mustBeZero ∧
    decode 0x3200000100#40 = .error .mustBeZero ∧ decode 0x33FFFFE000#40 = .error .mustBeZero ∧
    decode 0x9900000001#40 = .error .mustBeZero ∧ decode 0x8600000001#40 = .error .registerNotInUse := by decide

theorem test_decodeTableWord_reads_the_low_bits :
    decodeTableWord 40 0x3000006448 = some (.mapNoteon 72#8 100#8) ∧ decodeTableWord 40 0xC000000000 = none := by decide

/-- R89: the pseudo-instructions expand to the words the spec shows. -/
theorem test_pseudo_words :
    (expandPseudo .envLevel).map encode = [0x9900000000#40] ∧ (expandPseudo .lfoValue).map encode = [0xAB00000000#40] ∧
    (expandPseudo .lfoReset).map encode = [0x2200000000#40] ∧ (expandPseudo .mapPitch).map encode = [0xBE00000000#40] ∧
    (expandPseudo .mapVel).map encode = [0xBF00000000#40] ∧ (expandPseudo .clkCount).map encode = [0x8300000000#40] ∧
    (expandPseudo .envOn).map encode = [0x1000000001#40] ∧ (expandPseudo .envOff).map encode = [0x1000000000#40] := by decide

/-- R89: `WRTAB sel, idx, v` and `RDTAB sel, idx`, with the pointer `sel * 256 + idx`. -/
theorem test_pseudo_table_words :
    (expandPseudo (.wrtab .vlut 61#7 0x40000000#32)).map encode = [0x750000013D#40, 0x7640000000#40] ∧
    (expandPseudo (.rdtab .trim 61#7)).map encode = [0x750000003D#40, 0xB600000000#40] := by decide

/-- R88: the ten hexadecimal digits of a line, and the line. -/
theorem test_encoding_line :
    hexLine (.mapBend 0xE000#16) = "33_0000E000".toList ∧ assemblerLine (.mapBend 0xE000#16) = "MAP.BEND -8192" ∧
    assemblerLine (.wrcfg 0x11#6 10#32) = "WRCFG ENV_ATTACK_T, 10" := by decide +kernel

/-- R15: the advance command of units 1, 2 and 3 is function 1. -/
theorem test_advance_is_function_one :
    functionField (opcodeField (encode .envAdv)) = 1#4 ∧ functionField (opcodeField (encode .lfoAdv)) = 1#4 ∧
    functionField (opcodeField (encode .mapAdv)) = 1#4 := by decide

/-- R65: the transport of a response. -/
theorem test_response_bytes :
    responseBytes (responseWord ⟨.illegal, 0x01020304#32⟩) = [4#8, 1#8, 2#8, 3#8, 4#8] := by decide

/-! ### One step of each command -/

/-- Vectors Y3, Y4, Y5. -/
theorem test_init_reports_its_causes :
    reply 0#40 State.reset = some ⟨.configurationError, 3#32⟩ ∧
    reply 0#40 { State.reset with sys := configured.sys } = some ⟨.configurationError, 2#32⟩ ∧
    reply 0#40 { State.reset with map := configured.map } = some ⟨.configurationError, 1#32⟩ := by decide +kernel

/-- Vectors Y6 and Y7. -/
theorem test_init_enters_run :
    (next (performWord 0#40 configured) configured).sys.mode = .run ∧ reply 0#40 running = some ⟨.modeError, 1#32⟩ := by
  decide +kernel

/-- Vector Y11. -/
theorem test_tick_wraps :
    (next (exec .tick { running with sys := { running.sys with tickCount := 0xFFFFFFFF#32 } }) running).sys.tickCount =
      0#32 := by decide

/-- Vector E3: a gate-on in Release keeps the level. -/
theorem test_envGate_on_in_release :
    (next (exec (.envGate true) (runningEnv (envelopeE1 .release false 0x28000000#32 0#32 5#32))) running).env =
      envelopeE1 .attack true 0x28000000#32 0x80000000#32 10#32 := by decide +kernel

/-- Vector E1: the gate-off in Sustain. -/
theorem test_envGate_off_in_sustain :
    (next (exec (.envGate false) (runningEnv (envelopeE1 .sustain true 0x40000000#32 0x40000000#32 0#32))) running).env =
      envelopeE1 .release false 0x40000000#32 0#32 8#32 := by decide +kernel

/-- Vector E1: the first advance, and the 10th, which ends the Attack. -/
theorem test_envAdv_linear_attack :
    (next (exec .envAdv (runningEnv (envelopeE1 .attack true 0#32 0x80000000#32 10#32))) running).env.level =
      0x0CCCCCCC#32 ∧
    (next (exec .envAdv (runningEnv (envelopeE1 .attack true 0x73333333#32 0x80000000#32 1#32))) running).env =
      envelopeE1 .decay true 0x80000000#32 0x40000000#32 5#32 := by decide +kernel

/-- Vector E2: the first exponential advance of a four-tick Attack. -/
theorem test_envAdv_exponential_attack :
    (next (exec .envAdv (runningEnv
      { envelopeE1 .attack true 0#32 0x80000000#32 4#32 with curve := .exponential, attackT := 4#32 })) running).env.level =
      0x5785D93B#32 := by decide +kernel

/-- Vector L8: every pattern is a legal frequency. -/
theorem test_lfoSetf_takes_every_pattern :
    (next (exec (.lfoSetf 0xFFFFFFFF#32) running) running).lfo.freq = 0xFFFFFFFF#32 := by decide

/-- Vector L4: the fourth advance wraps and draws. -/
theorem test_lfoAdv_wrap_draws :
    (next (exec .lfoAdv { runningLfo 0xC0000000#32 with lfo := { (runningLfo 0xC0000000#32).lfo with rng := 1#32 } })
      running).lfo = { (runningLfo 0#32).lfo with rng := 0x3C88596C#32, hold := 30992#17 } := by decide +kernel

/-- Vector L6. -/
theorem test_lfoSync_clears_the_phase :
    (next (exec .lfoSync (runningLfo 0x9ABCDEF0#32)) running).lfo = (runningLfo 0#32).lfo := by decide

/-- Vector M1, first line. -/
theorem test_mapNoteon_sets_pitch_and_velocity :
    (next (exec (.mapNoteon 72#8 100#8) running) running).map =
      { running.map with note := 72#7, target := 0x00010000#32, acc := 0x000100000000#48, velCv := 0x64C99326#32 } := by
  decide +kernel

/-- Vector M1, the error lines. -/
theorem test_mapNoteon_errors :
    reply 0x3000006480#40 running = some ⟨.valueOutOfRange, 1#32⟩ ∧
    reply 0x300000803C#40 running = some ⟨.valueOutOfRange, 2#32⟩ ∧
    reply 0x30000000C8#40 running = some ⟨.valueOutOfRange, 1#32⟩ := by decide +kernel

/-- Vector M5: the first advance of a linear glide of four ticks. -/
theorem test_mapAdv_moves_a_quarter :
    (next (exec .mapAdv (gliding 4#32)) running).map.acc = 0x000040000000#48 ∧
    (next (exec .mapAdv (gliding 4#32)) running).map.slewRemain = 3#32 := by decide +kernel

/-- Vector M7. -/
theorem test_mapNoteoff_replies :
    reply 0x3200000048#40 running = some ⟨.ok, 0#32⟩ ∧ reply 0x3200000080#40 running = some ⟨.valueOutOfRange, 1#32⟩ := by
  decide +kernel

/-- Vector M4: the lowest bend, and the pitch it gives. -/
theorem test_mapBend_lowest :
    (readReg params .mapBend (next (exec (.mapBend 0xE000#16) running) running)) = 0xFFFFE000#32 ∧
    (readReg params .mapPitchCv (next (exec (.mapBend 0xE000#16) running) running)) = 0xFFFFD555#32 := by decide +kernel

/-- Vectors D11 to D15. -/
theorem test_wrcfg_values :
    reply 0x5380000001#40 State.reset = some ⟨.illegal, 5#32⟩ ∧ reply 0x5380000000#40 State.reset = some ⟨.ok, 0#32⟩ ∧
    reply 0x7000000003#40 State.reset = some ⟨.illegal, 5#32⟩ ∧ reply 0x7000000010#40 State.reset = some ⟨.illegal, 2#32⟩ ∧
    reply 0x6000000005#40 State.reset = some ⟨.illegal, 5#32⟩ := by decide +kernel

/-- Vectors D18 to D21: the order of the checks in RUN mode. -/
theorem test_wrcfg_in_run :
    reply 0x5000000004#40 running = some ⟨.illegal, 2#32⟩ ∧ reply 0x5390000000#40 running = some ⟨.modeError, 1#32⟩ ∧
    reply 0x750000017F#40 running = some ⟨.ok, 0#32⟩ ∧ reply 0x7600000000#40 running = some ⟨.modeError, 1#32⟩ := by
  decide +kernel

/-- Vectors Y1, D25, D4. -/
theorem test_rdreg_reset_values :
    reply 0x8000000000#40 State.reset = some ⟨.ok, 0x4D474531#32⟩ ∧
    reply 0xA400000000#40 State.reset = some ⟨.ok, 0x80000000#32⟩ ∧
    reply 0x8600000000#40 State.reset = some ⟨.illegal, 3#32⟩ := by decide +kernel

/-- Vector D27. -/
theorem test_rdreg_accumulator :
    readReg params .mapNoteCv { running with map := { running.map with acc := 0xFFFF37274D9D#48 } } = 0xFFFF3727#32 ∧
    readReg params .mapNoteFrac { running with map := { running.map with acc := 0xFFFF37274D9D#48 } } = 0x00004D9D#32 := by
  decide

/-! ### Witnesses: the hypotheses of the statements can be met -/

/-- The constructed state meets the invariant. -/
theorem running_inv : Inv running where
  memory := by decide
  vlut_le := fun i => by simp [running, construct, configured, State.reset, State.setMap, State.setLfo, State.setEnv,
    State.setSys, memRead, tableRead, tableUnlisted]
  envelope := by constructor <;> decide
  mapper := by constructor <;> decide +kernel
  cause_iff := by decide
  fresh := fun h => absurd rfl h
  valid := fun _ => ⟨by decide, by decide, by decide +kernel⟩

theorem witness_DecodeFollowsTheOpcodeTable :
    decode 0x3000006448#40 = .ok (.mapNoteon 72#8 100#8) ∧
    0x3000006448#40 &&& (opcodeRow (.mapNoteon 0#8 0#8)).2 = (opcodeRow (.mapNoteon 0#8 0#8)).1 := by decide

/-- The opcodes next to each range are not reserved; those at its ends are in `test_decode_reserved_opcodes`. -/
theorem witness_ReservedOpcodesAreExactlyThese :
    decode (0xBF#8 ++ 0#32) = .ok (.rdreg 0x3F#6) ∧ decode (0x01#8 ++ 0#32) = .ok .tick ∧
    decode (0x10#8 ++ 0#32) = .ok (.envGate false) ∧ decode (0x11#8 ++ 0#32) = .ok .envAdv ∧
    decode (0x20#8 ++ 0#32) = .ok (.lfoSetf 0#32) ∧ decode (0x22#8 ++ 0#32) = .ok .lfoSync ∧
    decode (0x30#8 ++ 0#32) = .ok (.mapNoteon 0#8 0#8) ∧ decode (0x33#8 ++ 0#32) = .ok (.mapBend 0#16) ∧
    decode (0x40#8 ++ 0#32) = .ok (.wrcfg 0#6 0#32) := by decide

/-- Operands at the edge of each format, and a read with a nonzero operand of a register in use and of one not in use. -/
theorem witness_MustBeZeroBitsPerFormat :
    decode (0x00#8 ++ 0#32) = .ok .init ∧ decode (0x00#8 ++ 1#32) = .error .mustBeZero ∧
    decode (0x10#8 ++ 1#32) = .ok (.envGate true) ∧ decode (0x10#8 ++ 2#32) = .error .mustBeZero ∧
    decode (0x33#8 ++ 0xFFFF#32) = .ok (.mapBend 0xFFFF#16) ∧ decode (0x33#8 ++ 0x10000#32) = .error .mustBeZero ∧
    decode (0x32#8 ++ 0xFF#32) = .ok (.mapNoteoff 0xFF#8) ∧ decode (0x32#8 ++ 0x100#32) = .error .mustBeZero ∧
    1#32 ≠ 0#32 ∧ regInUse 0x3F#6 = true ∧ regInUse 0x06#6 = false := by decide

theorem witness_StepPerformsTheDecodedCommand :
    ({ running with inbox := [.command 0x0100000000#40] } : State).inbox = .command 0x0100000000#40 :: [] ∧
    decode 0x0100000000#40 = .ok .tick := by decide

theorem witness_StepAnswersUndecodableWordIllegal :
    ({ running with inbox := [.command 0xC000000000#40] } : State).inbox = .command 0xC000000000#40 :: [] ∧
    decode 0xC000000000#40 = .error .reservedOpcode ∧ decode 0x1100000001#40 = .error .mustBeZero ∧
    decode 0x8600000001#40 = .error .registerNotInUse := by decide

theorem witness_StepTakesResetAndIdles :
    ({ running with inbox := [.reset] } : State).inbox = .reset :: [] ∧ running.inbox = [] := by decide

theorem witness_DefaultExpRateIsTheLeastRate : (1#32 : Word) ≠ 0#32 := by decide

/-- A construction that passes (mask 0), and vector Y3 (mask 3). -/
theorem witness_InitConstructsOrLatchesItsCauses :
    (configured.sys.mode = .config ∧ ((0#3 : BitVec 3).getLsbD 0 = true ↔ configured.sys.tickPeriod = 0#32) ∧
      ((0#3 : BitVec 3).getLsbD 1 = true ↔ fxOf configured.map.scale ≤ 0) ∧
      ((0#3 : BitVec 3).getLsbD 2 = true ↔
        ∃ n < 127, noteTarget configured.map configured.mem n > noteTarget configured.map configured.mem (n + 1))) ∧
    (State.reset.sys.mode = .config ∧ ((3#3 : BitVec 3).getLsbD 0 = true ↔ State.reset.sys.tickPeriod = 0#32) ∧
      ((3#3 : BitVec 3).getLsbD 1 = true ↔ fxOf State.reset.map.scale ≤ 0) ∧
      ((3#3 : BitVec 3).getLsbD 2 = true ↔
        ∃ n < 127, noteTarget State.reset.map State.reset.mem n > noteTarget State.reset.map State.reset.mem (n + 1))) ∧
    running.sys.mode ≠ .config ∧ (1#32 : Word) ≠ 0#32 := by decide +kernel

/-- RUN mode, not RUN mode, and a nonzero operand: these clauses stand also in the statements of `ENV.ADV`, `LFO.ADV`,
`LFO.SYNC` and `MAP.ADV`. -/
theorem witness_TickCountsOneModulo :
    running.sys.mode = .run ∧ configured.sys.mode ≠ .run ∧ failed.sys.mode ≠ .run ∧ (1#32 : Word) ≠ 0#32 := by decide

theorem witness_SegStepNeverOvershoots : (0 : Int) ≤ 2147483648 ∧ (0 : Int) ≤ 0 := by decide

theorem witness_SegmentCompletesExactlyAtItsDeadline :
    0 < max (0#32 : Word).toNat 1 ∧ 3 < max (4#32 : Word).toNat 1 := by decide

theorem witness_GateOnStartsOrKeepsAttack :
    (configured.sys.mode ≠ .run ∧ 1 < (2#32 : Word).toNat) ∧ ∀ p, (runningEnv (envelopeE1 p false 0#32 0#32 0#32)).sys.mode = .run ∧
      (runningEnv (envelopeE1 p false 0#32 0#32 0#32)).env.phase = p := ⟨by decide, fun _ => ⟨rfl, rfl⟩⟩

theorem witness_GateOffReleasesOnlyAnOpenGate :
    (runningEnv (envelopeE1 .attack true 0#32 0x80000000#32 10#32)).sys.mode = .run ∧
    (runningEnv (envelopeE1 .attack true 0#32 0x80000000#32 10#32)).env.gate = true ∧ running.env.gate = false := by decide

/-- A phase in which nothing moves; two ticks remaining in each moving phase; one and none remaining in each. -/
theorem witness_EnvelopeAdvanceByPhase :
    (running.sys.mode = .run ∧ running.env.phase = .idle ∧ configured.sys.mode ≠ .run ∧ (1#32 : Word) ≠ 0#32) ∧
    (∀ p, (runningEnv (envelopeE1 p true 0#32 0x80000000#32 2#32)).sys.mode = .run ∧
      2 ≤ (runningEnv (envelopeE1 p true 0#32 0x80000000#32 2#32)).env.remain.toNat ∧
      (runningEnv (envelopeE1 p true 0#32 0x80000000#32 2#32)).env.phase = p) ∧
    (∀ p, (runningEnv (envelopeE1 p true 0#32 0x80000000#32 1#32)).sys.mode = .run ∧
      (runningEnv (envelopeE1 p true 0#32 0x80000000#32 1#32)).env.remain.toNat ≤ 1 ∧
      (runningEnv (envelopeE1 p true 0#32 0x80000000#32 1#32)).env.phase = p) ∧
    ∀ p, (runningEnv (envelopeE1 p true 0#32 0x80000000#32 0#32)).sys.mode = .run ∧
      (runningEnv (envelopeE1 p true 0#32 0x80000000#32 0#32)).env.remain.toNat ≤ 1 ∧
      (runningEnv (envelopeE1 p true 0#32 0x80000000#32 0#32)).env.phase = p :=
  ⟨by decide, fun _ => ⟨rfl, show 2 ≤ (2#32 : Word).toNat by decide, rfl⟩,
    fun _ => ⟨rfl, show (1#32 : Word).toNat ≤ 1 by decide, rfl⟩, fun _ => ⟨rfl, show (0#32 : Word).toNat ≤ 1 by decide, rfl⟩⟩

theorem witness_FullCycleReachesTopAndZeroExactly :
    (running.sys.mode = .run ∧ running.env.phase = .idle) ∧
    (runningEnv (envelopeE1 .sustain true 0x40000000#32 0x40000000#32 0#32)).sys.mode = .run ∧
    (runningEnv (envelopeE1 .sustain true 0x40000000#32 0x40000000#32 0#32)).env.gate = true := by decide

theorem witness_RetriggerNeverDropsTheLevel :
    ∀ p, (runningEnv (envelopeE1 p false 0x28000000#32 0#32 5#32)).sys.mode = .run ∧
      (runningEnv (envelopeE1 p false 0x28000000#32 0#32 5#32)).env.level.toNat ≤ 2 ^ 31 ∧
      9 < max (runningEnv (envelopeE1 p false 0x28000000#32 0#32 5#32)).env.attackT.toNat 1 ∧
      (runningEnv (envelopeE1 p false 0x28000000#32 0#32 5#32)).env.phase = p :=
  fun _ => ⟨rfl, show (0x28000000#32 : Word).toNat ≤ 2 ^ 31 by decide, show 9 < max (10#32 : Word).toNat 1 by decide, rfl⟩

theorem witness_OnlyEnvCtrlAccessesShowTheLegatoBit :
    Inv running ∧ Instr.envGate true ≠ .rdreg 0x10#6 ∧ (∀ v, Instr.envGate true ≠ .wrcfg 0x10#6 v) :=
  ⟨running_inv, nofun, nofun⟩

/-- A gate-on in Idle changes the phase. -/
theorem witness_PhaseTransitionsAreTheListedOnes :
    Inv running ∧ exec (.envGate true) running = .next (next (exec (.envGate true) running) running) ∧
    (next (exec (.envGate true) running) running).env.phase ≠ running.env.phase := ⟨running_inv, rfl, by decide⟩

theorem witness_SetFrequencyWritesOnlyTheFrequency : running.sys.mode = .run ∧ configured.sys.mode ≠ .run := by decide

/-- An advance to just below a wrap, and one to the wrap exactly. -/
theorem witness_LfoAdvanceMovesPhaseAndDrawsOnWrap :
    (runningLfo 0xBFFFFFFF#32).sys.mode = .run ∧
    0xFFFFFFFF = (runningLfo 0xBFFFFFFF#32).lfo.phase.toNat +
      (runningLfo 0xBFFFFFFF#32).lfo.freq.toNat * (runningLfo 0xBFFFFFFF#32).sys.tickPeriod.toNat / 2 ^ 16 ∧
    0x100000000 = (runningLfo 0xC0000000#32).lfo.phase.toNat +
      (runningLfo 0xC0000000#32).lfo.freq.toNat * (runningLfo 0xC0000000#32).sys.tickPeriod.toNat / 2 ^ 16 ∧
    configured.sys.mode ≠ .run ∧ (1#32 : Word) ≠ 0#32 := by decide

theorem witness_SyncClearsOnlyThePhase :
    running.sys.mode = .run ∧ configured.sys.mode ≠ .run ∧ (1#32 : Word) ≠ 0#32 := by decide

/-- Four advances of a quarter cycle make one cycle (vector L1). -/
theorem witness_LfoPhaseAfterManyAdvances :
    (runningLfo 0#32).sys.mode = .run ∧
    4 * ((runningLfo 0#32).lfo.freq.toNat * (runningLfo 0#32).sys.tickPeriod.toNat / 2 ^ 16) = 2 ^ 32 := by decide

theorem witness_HeldValueChangesOnlyAtAWrap :
    exec .lfoAdv (runningLfo 0xC0000000#32) = .next (next (exec .lfoAdv (runningLfo 0xC0000000#32)) running) ∧
    (next (exec .lfoAdv (runningLfo 0xC0000000#32)) running).lfo.hold ≠ (runningLfo 0xC0000000#32).lfo.hold :=
  ⟨rfl, by decide +kernel⟩

theorem witness_WaveformsFollowTheirFormulas :
    ∀ w, ({ running.lfo with wave := w } : Lfo).wave = w := fun _ => rfl

theorem witness_LfoOutputStaysWithinItsRange :
    -2147483648 ≤ fxOf (runningLfo 0#32).lfo.offset - |fxOf (runningLfo 0#32).lfo.amp| ∧
    fxOf (runningLfo 0#32).lfo.offset + |fxOf (runningLfo 0#32).lfo.amp| ≤ 2147483647 := by decide

/-- The least and the greatest legal note and velocity, the least illegal ones, velocity 0, and an operand bit too many. -/
theorem witness_NoteOnCommand :
    running.sys.mode = .run ∧ configured.sys.mode ≠ .run ∧ (127#8 : BitVec 8).toNat ≤ 127 ∧ 1 ≤ (1#8 : BitVec 8).toNat ∧
    127 < (128#8 : BitVec 8).toNat ∧ (0#8 : BitVec 8).toNat = 0 ∧ 65535 < (0x00010000#32 : Word).toNat := by decide

theorem witness_NoteOffChangesNothing :
    running.sys.mode = .run ∧ configured.sys.mode ≠ .run ∧ (127#8 : BitVec 8).toNat ≤ 127 ∧
    127 < (128#8 : BitVec 8).toNat ∧ 255 < (0x100#32 : Word).toNat := by decide

/-- The least and the greatest legal bend, and the illegal ones next to them. -/
theorem witness_BendIsStoredSignExtended :
    running.sys.mode = .run ∧ configured.sys.mode ≠ .run ∧ -8192 ≤ (0xE000#16 : BitVec 16).toInt ∧
    (0x1FFF#16 : BitVec 16).toInt ≤ 8191 ∧ (0xDFFF#16 : BitVec 16).toInt < -8192 ∧ 8191 < (0x2000#16 : BitVec 16).toInt ∧
    65535 < (0xFFFFE000#32 : Word).toNat := by decide

theorem witness_MapperAdvanceMovesTheAccumulator :
    (gliding 1#32).sys.mode = .run ∧ (gliding 1#32).map.slewRemain.toNat ≤ 1 ∧
    2 ≤ (gliding 2#32).map.slewRemain.toNat ∧ configured.sys.mode ≠ .run ∧ (1#32 : Word) ≠ 0#32 := by decide

theorem witness_GlideConvergesWithinItsTime :
    (gliding 0#32).sys.mode = .run ∧ (127#8 : BitVec 8).toNat ≤ 127 ∧ 1 ≤ (127#8 : BitVec 8).toNat := by decide

theorem witness_PitchIsMonotoneInTheNote :
    Inv running ∧ running.sys.mode = .run ∧ running.map.glideEn = false ∧ (0#8 : BitVec 8).toNat ≤ (127#8 : BitVec 8).toNat ∧
    (127#8 : BitVec 8).toNat ≤ 127 ∧ 1 ≤ (1#8 : BitVec 8).toNat := ⟨running_inv, by decide⟩

theorem witness_VelocityCurves :
    running.map.velCurve = .linear ∧ ({ running.map with velCurve := .exponential } : Mapper).velCurve = .exponential ∧
    running.map.velCurve ≠ .table ∧ ({ running.map with velCurve := .exponential } : Mapper).velCurve ≠ .table ∧
    ({ running.map with velCurve := .table } : Mapper).velCurve = .table ∧ 1 ≤ 1 ∧ 127 ≤ 127 ∧ 1 < 2 ∧ 126 < 127 := by decide

/-- The two ends of the range of notes, and the values of vector M2 there. -/
theorem witness_NoteTargetFollowsItsFormula :
    0 ≤ 127 ∧ 127 ≤ 127 ∧ noteTarget running.map running.mem 0 = -327680 ∧
    noteTarget running.map running.mem 127 = 365909 := by decide +kernel

/-- A register, the window, and the pointer in RUN mode. -/
theorem witness_WrcfgWritesItsRegisterOnly :
    (configured.mem.wf = true ∧ regWritable .envSustain = true ∧ 0x80000000#32 &&& regMbz .envSustain = 0#32 ∧
      configured.sys.mode = .config ∧ regLegal .envSustain 0x80000000#32 configured = true) ∧
    (regWritable .tabData = true ∧ regLegal .tabData 7#32 configured = true) ∧
    regWritable .tabAddr = true ∧ 0x17F#32 &&& regMbz .tabAddr = 0#32 ∧ regLegal .tabAddr 0x17F#32 running = true := by decide

/-- One input for each refusal. -/
theorem witness_WrcfgRefusalsInOrder :
    regOfNumber 0x06#6 = none ∧ (regOfNumber 0x19#6 = some .envLevel ∧ regWritable .envLevel = false) ∧
    (regOfNumber 0x10#6 = some .envCtrl ∧ regWritable .envCtrl = true ∧ 4#32 &&& regMbz .envCtrl ≠ 0#32) ∧
    (3#32 &&& regMbz .envCtrl = 0#32 ∧ running.sys.mode ≠ .config) ∧ configured.sys.mode = .config ∧
    2 ^ 31 < (0x80000001#32 : Word).toNat ∧ 4 < (5#32 : Word).toNat % 8 ∧ (3#32 : Word).toNat % 4 = 3 ∧
    ({ configured with tab := ⟨.vlut, 61#7⟩ } : State).tab.sel = .vlut := by decide

theorem witness_WindowWriteStoresOneEntry :
    configured.sys.mode = .config ∧ configured.mem.wf = true ∧ configured.tab.sel = .trim ∧
    (0x80000000#32 : Word).toNat ≤ 2 ^ 31 ∧ ({ configured with tab := ⟨.vlut, 61#7⟩ } : State).sys.mode = .config ∧
    ({ configured with tab := ⟨.vlut, 61#7⟩ } : State).tab.sel = .vlut ∧ 2 ^ 31 < (0x80000001#32 : Word).toNat := by decide

theorem witness_RdregAnswersAndChangesNothing :
    regInUse 0x06#6 = false ∧ regInUse 0x19#6 = true ∧ (1#32 : Word) ≠ 0#32 := by decide

theorem witness_EqualEntriesAreEqualTables :
    tableWf [(61, 7#32)] = true ∧ ∀ i < 128, tableRead [(61, 7#32)] i = tableRead (tableWrite [] 61 7#32) i := by
  decide +kernel

theorem witness_EveryStepKeepsTheInvariant :
    Inv running ∧ step running = .next running := ⟨running_inv, rfl⟩

theorem witness_EveryCommandKeepsTheInvariantForAllParameters :
    Inv running ∧ execWith params .tick running = .next (next (execWith params .tick running) running) :=
  ⟨running_inv, rfl⟩

/-- The model's parameters meet what a model may assume of them, so the statements over legal parameters speak of some. -/
theorem witness_legal_parameters : ∃ P : Params, P.Legal :=
  ⟨⟨fun _ => 0, fun _ => unitOne, id, fun _ => 0⟩, ⟨fun _ => by simp, fun _ _ _ => le_refl _, rfl, fun _ => by simp,
    fun _ => by simp⟩⟩

/-- A rejected command, and a failed construction. -/
theorem witness_RejectedCommandChangesNothing :
    reply 0x0100000000#40 configured = some ⟨.modeError, 0#32⟩ ∧
    reply 0x0000000000#40 State.reset = some ⟨.configurationError, 3#32⟩ := by decide +kernel

theorem witness_StatusesEachCommandCanReturn :
    exec .tick running = .next (next (exec .tick running) running) ∧
    (next (exec .tick running) running).response = some ⟨.ok, 0#32⟩ := ⟨rfl, rfl⟩

/-- Each disjunct of the condition, and a command outside all of them. -/
theorem witness_ModeErrorsFollowTheModeTable :
    running.sys.mode ≠ .config ∧ operational .tick = true ∧ configured.sys.mode ≠ .run ∧
    WellFormed (.wrcfg 0x36#6 0#32) = true ∧ WellFormed (.wrcfg 0x35#6 0x17F#32) = true ∧ WellFormed .init = true := by decide

theorem witness_ModeChangesOnlyByInit :
    exec .init configured = .next (next (exec .init configured) configured) ∧
    (next (exec .init configured) configured).sys.mode ≠ configured.sys.mode := by
  have h : configCheck configured = 0#3 := by decide +kernel
  simp only [exec, execInit, inMode_of_eq (show configured.sys.mode = .config from rfl), h]
  exact ⟨rfl, by decide⟩

theorem witness_ConfigurationIsFrozenInRun :
    running.sys.mode = .run ∧
    exec (.lfoSetf 5#32) running = .next (next (exec (.lfoSetf 5#32) running) running) := ⟨rfl, rfl⟩

theorem witness_FailedBlockStaysFailed : failed.sys.mode = .failed := by decide

/-- A command that changes a register, one that changes a table, and a refused `INIT`. -/
theorem witness_WritersOfEachRegister :
    (exec .tick running = .next (next (exec .tick running) running) ∧
      readReg params .tickCount (next (exec .tick running) running) ≠ readReg params .tickCount running) ∧
    (exec (.wrcfg 0x36#6 7#32) configured = .next (next (exec (.wrcfg 0x36#6 7#32) configured) configured) ∧
      (next (exec (.wrcfg 0x36#6 7#32) configured) configured).mem ≠ configured.mem) ∧
    exec .init running = .next (next (exec .init running) running) ∧
    (next (exec .init running) running).response ≠ some ⟨.ok, 0#32⟩ :=
  ⟨⟨rfl, by decide⟩, ⟨rfl, by decide +kernel⟩, rfl, by decide +kernel⟩

end Sys2Proof.Tests
end

/-! PROOFS of the statements of 00_scope.md: the default parameters (R5, R8), one curve step (R9), one step (R10). -/

namespace Sys2Proof.Machine

/-! ### The default parameters (00_scope.md R8, 43_midi_to_cv.md R158, 20_memory.md R62) -/

/-- The residue search finds, of the numbers its open bits can still reach, the greatest that the bound of R8 admits. -/
theorem expResidueFrom_isGreatest (D bits r : Nat) (hr : 100 * r ^ D ≤ 2 ^ (32 * D)) :
    100 * expResidueFrom D bits r ^ D ≤ 2 ^ (32 * D) ∧ expResidueFrom D bits r < r + 2 ^ bits ∧
      ∀ r' < r + 2 ^ bits, 100 * r' ^ D ≤ 2 ^ (32 * D) → r' ≤ expResidueFrom D bits r := by
  induction bits generalizing r with
  | zero =>
    refine ⟨hr, Nat.lt_succ_self r, fun r' hlt _ => ?_⟩
    exact Nat.le_of_lt_succ hlt
  | succ bits ih =>
    have hpos : 0 < 2 ^ bits := Nat.two_pow_pos bits
    simp only [expResidueFrom]
    split
    · next hset =>
      obtain ⟨hadm, hlt, hmax⟩ := ih (r + 2 ^ bits) hset
      exact ⟨hadm, by omega, fun r' hr' => hmax r' (by omega)⟩
    · next hclear =>
      obtain ⟨hadm, hlt, hmax⟩ := ih r hr
      refine ⟨hadm, by omega, fun r' _ hadm' => hmax r' ?_ hadm'⟩
      by_contra hge
      have hmono : (r + 2 ^ bits) ^ D ≤ r' ^ D := Nat.pow_le_pow_left (by omega) D
      omega

/-- The number 1.0 is too great to be a residue, for every duration. -/
theorem one_not_residue (D : Nat) : ¬ 100 * (2 ^ 32) ^ D ≤ 2 ^ (32 * D) := by
  have hpos : 0 < 2 ^ (32 * D) := Nat.two_pow_pos _
  rw [← Nat.pow_mul]
  omega

theorem zero_residue {D : Nat} (hD : D ≠ 0) : 100 * 0 ^ D ≤ 2 ^ (32 * D) := by simp [hD]

theorem defaultExpRate_of_ne_zero {D : Word} (hD : D ≠ 0#32) :
    defaultExpRate D = 2 ^ 32 - expResidueFrom D.toNat 32 0 := if_neg hD

theorem defaultExpRate_le (D : Word) : defaultExpRate D ≤ 2 ^ 32 := by
  by_cases hD : D = 0#32
  · exact (if_pos hD).le
  · rw [defaultExpRate_of_ne_zero hD]; exact Nat.sub_le _ _

/-- Settles O13: the search covers the numbers below 1.0, and 1.0 itself is no residue. -/
theorem defaultExpRateIsTheLeastRate : Obligations.DefaultExpRateIsTheLeastRate := by
  refine ⟨rfl, fun D hD => ?_⟩
  have hD' : D.toNat ≠ 0 := fun h => hD (BitVec.eq_of_toNat_eq h)
  obtain ⟨hadm, hlt, hmax⟩ := expResidueFrom_isGreatest D.toNat 32 0 (zero_residue hD')
  refine ⟨expResidueFrom D.toNat 32 0, by omega, defaultExpRate_of_ne_zero hD, hadm, fun r' hr' hadm' => ?_⟩
  have hne : r' ≠ 2 ^ 32 := by
    rintro rfl
    exact one_not_residue _ hadm'
  exact hmax r' (by omega) hadm'

/-- The square law is at most 1.0 up to the greatest velocity, 127. -/
theorem defaultVelExp_le {v : Nat} (hv : v ≤ 127) : defaultVelExp v ≤ unitOne := by
  have hsq : v * v ≤ 16129 := Nat.mul_le_mul hv hv
  exact Nat.div_le_of_le_mul (Nat.mul_le_mul_right unitOne hsq)

theorem sineRows_mem_range : ∀ x ∈ sineRows, -65536 ≤ x ∧ x ≤ 65536 := by decide +kernel

theorem defaultSine_range (i : BitVec 8) : -65536 ≤ defaultSine i ∧ defaultSine i ≤ 65536 := by
  unfold defaultSine
  rw [List.getD_eq_getElem?_getD]
  cases h : sineRows[i.toNat]? with
  | none => simp
  | some x => exact sineRows_mem_range x (List.mem_of_getElem? h)

/-- Settles O12. -/
theorem defaultParametersAreLegal : Obligations.DefaultParametersAreLegal where
  expRate_le := defaultExpRate_le
  velExp_le _ _ hv := defaultVelExp_le hv
  velExp_top := rfl
  sine_ge i := (defaultSine_range i).1
  sine_le i := (defaultSine_range i).2

/-- Settles O14: each command with a parameter is defined as its parametric form at the defaults, and the other
commands have no parameter. -/
theorem execIsTheParametricExecAtDefaults : Obligations.ExecIsTheParametricExecAtDefaults := by
  intro i s
  cases i <;> rfl

/-- Settles O6. -/
theorem stepPerformsTheDecodedCommand : Obligations.StepPerformsTheDecodedCommand := by
  intro s w i rest hbox hdec
  rw [step_command hbox, performWord_of_ok hdec]

/-! ### One curve step (00_scope.md R7, R9) -/

/-- A number between 0 and `d`, on either side of 0. -/
def Within (x d : Int) : Prop := (0 ≤ d → 0 ≤ x ∧ x ≤ d) ∧ (d ≤ 0 → d ≤ x ∧ x ≤ 0)

/-- A truncated share of a distance does not pass it. -/
theorem tdiv_within (d : Int) (n : Nat) : Within (tdiv d n) d := by
  unfold tdiv
  have share_le {a : Int} (ha : 0 ≤ a) : 0 ≤ a.tdiv n ∧ a.tdiv n ≤ a :=
    ⟨Int.tdiv_nonneg ha n.cast_nonneg, Int.tdiv_le_self n ha⟩
  refine ⟨share_le, fun hd => ?_⟩
  have hneg := share_le (Int.neg_nonneg.mpr hd)
  rw [Int.neg_tdiv] at hneg
  omega

/-- A distance times a rate of at most 1.0 does not pass it: the floor of a negative product is still above the
distance, because the distance is an integer. -/
theorem mulrate_within (d : Int) {k : Nat} (hk : k ≤ 2 ^ 32) : Within (mulrate d k) d := by
  unfold mulrate
  rw [fdiv_eq_div _ (by norm_num)]
  have hk' : (k : Int) ≤ 2 ^ 32 := by exact_mod_cast hk
  constructor
  · intro hd
    have hlo : 0 ≤ d * k := mul_nonneg hd k.cast_nonneg
    have hhi : d * k ≤ d * 2 ^ 32 := mul_le_mul_of_nonneg_left hk' hd
    omega
  · intro hd
    have hlo : d * 2 ^ 32 ≤ d * k := mul_le_mul_of_nonpos_left hk' hd
    have hhi : d * k ≤ 0 := mul_nonpos_of_nonpos_of_nonneg hd k.cast_nonneg
    omega

/-- One curve step moves the value by a number between 0 and the whole distance. -/
theorem segStep_within {P : Params} (hP : P.Legal) (cur tgt : Int) (rem : Word) (curve : Curve) (dur : Word) :
    ∃ x, Within x (tgt - cur) ∧ (segStep P cur tgt rem curve dur).1 = cur + x := by
  by_cases hrem : rem.toNat ≤ 1
  · refine ⟨tgt - cur, ⟨fun h => ⟨h, le_refl _⟩, fun h => ⟨le_refl _, h⟩⟩, ?_⟩
    rw [segStep_deadline hrem]
    omega
  · rw [Nat.not_le] at hrem
    cases curve with
    | linear => exact ⟨_, tdiv_within _ _, by rw [segStep_linear hrem]⟩
    | exponential => exact ⟨_, mulrate_within _ (hP.expRate_le dur), by rw [segStep_exponential hrem]⟩

/-- Settles O18. -/
theorem segStepNeverOvershoots : Obligations.SegStepNeverOvershoots := by
  intro P hP cur tgt rem curve dur
  obtain ⟨x, ⟨hup, hdown⟩, heq⟩ := segStep_within hP cur tgt rem curve dur
  rw [heq]
  constructor
  · intro h
    have := hup (by omega)
    omega
  · intro h
    have := hdown (by omega)
    omega

/-- Before the deadline a curve step counts one tick down and does not complete, whatever the curve. -/
theorem segStep_counts_down {rem : Word} (h : 1 < rem.toNat) (P : Params) (cur tgt : Int) (curve : Curve) (dur : Word) :
    (segStep P cur tgt rem curve dur).2 = (rem - 1#32, false) := by
  cases curve with
  | linear => rw [segStep_linear h]
  | exponential => rw [segStep_exponential h]

theorem toNat_sub_one {w : Word} (h : 1 ≤ w.toNat) : (w - 1#32).toNat = w.toNat - 1 :=
  BitVec.toNat_sub_of_le (by simpa [BitVec.le_def] using h)

/-- Before the `max(D, 1)`-th step the remaining count is `D` less the steps made, and nothing has completed. -/
theorem segSteps_before_deadline (P : Params) (cur tgt : Int) (D : Word) (curve : Curve) (dur : Word) {n : Nat}
    (hn : n < max D.toNat 1) :
    (segSteps P cur tgt D curve dur n).2.1.toNat = D.toNat - n ∧ (segSteps P cur tgt D curve dur n).2.2 = false := by
  induction n with
  | zero => exact ⟨rfl, rfl⟩
  | succ n ih =>
    obtain ⟨hrem, -⟩ := ih (by omega)
    have hrun : 1 < (segSteps P cur tgt D curve dur n).2.1.toNat := by omega
    rw [segSteps, segStep_counts_down hrun]
    refine ⟨?_, rfl⟩
    rw [toNat_sub_one hrun.le]
    omega

/-- Settles O19, by induction on the steps before the deadline. -/
theorem segmentCompletesExactlyAtItsDeadline : Obligations.SegmentCompletesExactlyAtItsDeadline := by
  intro P cur tgt D curve dur
  refine ⟨fun n hn => (segSteps_before_deadline P cur tgt D curve dur hn).2, ?_⟩
  obtain ⟨m, hm⟩ : ∃ m, max D.toNat 1 = m + 1 := ⟨max D.toNat 1 - 1, by omega⟩
  have hlast := (segSteps_before_deadline P cur tgt D curve dur (n := m) (by omega)).1
  rw [hm]
  exact segStep_deadline (by omega) P _ tgt curve dur

end Sys2Proof.Machine

/-! PROOFS. The invariant of 10_state.md R36 and R57 under every command, for any legal parameters (00_scope.md R8):
first what each mode asks of a state, then each unit, then the commands. -/

namespace Sys2Proof.Machine

/-! ### The invariant and its parts -/

/-- The invariant says nothing of the table pointer, the waiting inputs and the response. -/
theorem Inv.withPort {s : State} (h : Inv s) (tab : TabAddr) (inbox : List Input) (response : Option Response) :
    Inv { s with tab, inbox, response } :=
  { h with
    mapper := { h.mapper with }
    fresh := fun hm => { h.fresh hm with }
    valid := fun hm => { h.valid hm with } }

/-- An idle envelope at its reset values has the envelope invariant, whatever its configuration. -/
theorem RunTimeAtReset.envelopeInv {s : State} (h : RunTimeAtReset s) (hsus : s.env.sustain.toNat ≤ unitOne) :
    EnvelopeInv s.env := by
  constructor <;> simp [h.phase, h.gate, h.level, h.target, h.remain, hsus]

/-- Outside RUN the invariant asks only for the tables, the sustain level, the causes and the reset values of R196. -/
theorem Inv.of_ne_run {s : State} (hm : s.sys.mode ≠ .run) (hmem : s.mem.wf = true)
    (hvlut : ∀ i, (memRead s.mem .vlut i).toNat ≤ unitOne) (hsus : s.env.sustain.toNat ≤ unitOne)
    (hcause : s.sys.cfgCause ≠ 0#3 ↔ s.sys.mode = .failed) (hfresh : RunTimeAtReset s) : Inv s where
  memory := hmem
  vlut_le := hvlut
  envelope := hfresh.envelopeInv hsus
  mapper :=
    { velCv_le := by simp [hfresh.velCv]
      acc_le := by simp [hfresh.acc]
      remain_le := fun h => absurd h hm
      target_eq := fun h => absurd h hm
      settled := fun h => absurd h hm }
  cause_iff := hcause
  fresh _ := hfresh
  valid h := absurd h hm

/-- In RUN a change of the envelope needs only the envelope invariant. -/
theorem Inv.setEnv_of_run {s : State} (h : Inv s) (hm : s.sys.mode = .run) {e : Envelope} (he : EnvelopeInv e) :
    Inv (s.setEnv e) :=
  { h with
    envelope := he
    mapper := { h.mapper with }
    fresh := fun hne => absurd hm hne
    valid := fun _ => { h.valid hm with } }

/-- In RUN the invariant says nothing of the LFO. -/
theorem Inv.setLfo_of_run {s : State} (h : Inv s) (hm : s.sys.mode = .run) (l : Lfo) : Inv (s.setLfo l) :=
  { h with
    mapper := { h.mapper with }
    fresh := fun hne => absurd hm hne
    valid := fun _ => { h.valid hm with } }

/-- In RUN the invariant says nothing of the tick count. -/
theorem Inv.setTickCount_of_run {s : State} (h : Inv s) (hm : s.sys.mode = .run) (n : Word) :
    Inv (s.setSys { s.sys with tickCount := n }) :=
  { h with
    mapper := { h.mapper with }
    fresh := fun hne => absurd hm hne
    valid := fun _ => { h.valid hm with } }

/-- In RUN a change of the mapper that keeps the scale and the zero note needs only the mapper invariant. -/
theorem Inv.setMap_of_run {s : State} (h : Inv s) (hm : s.sys.mode = .run) {m : Mapper} (hmap : MapperInv (s.setMap m))
    (hscale : m.scale = s.map.scale) (hzero : m.zeroNote = s.map.zeroNote) : Inv (s.setMap m) :=
  { h with
    mapper := hmap
    fresh := fun hne => absurd hm hne
    valid := fun _ =>
      { h.valid hm with
        scale_pos := by simpa [hscale] using (h.valid hm).scale_pos
        target_mono := fun n hn => by simpa [noteTarget_congr hscale hzero] using (h.valid hm).target_mono n hn } }

/-! ### Results that end in the invariant -/

/-- Whatever next state the result gives has the invariant. -/
def EndsInInv (r : Result) : Prop := ∀ t, r = .next t → Inv t

theorem Inv.respond {s : State} (h : Inv s) (v : Word) : EndsInInv (respond v s) := by
  rintro _ ⟨⟩
  exact h.withPort s.tab s.inbox _

theorem Inv.raise {s : State} (h : Inv s) (status : Status) (info : Word) : EndsInInv (raise status info s) := by
  rintro _ ⟨⟩
  exact h.withPort s.tab s.inbox _

/-- A command that fails its mode check changes the response alone. -/
theorem Inv.inMode {s : State} (h : Inv s) {m : Mode} {body : Result} (hbody : s.sys.mode = m → EndsInInv body) :
    EndsInInv (inMode m s body) := by
  intro t ht
  obtain ⟨hm, hnext⟩ | ⟨-, rfl⟩ := inMode_cases ht
  · exact hbody hm t hnext
  · exact h.withPort s.tab s.inbox _

/-! ### The envelope (10_state.md R36) -/

/-- The number 1.0 as a numeral, for linear arithmetic. -/
theorem unitOne_eq : unitOne = 2147483648 := rfl

/-- An Attack that starts under an open gate meets its clauses of R36, from any level of at most 1.0. -/
theorem startAttack_envelopeInv {e : Envelope} (hlevel : e.level.toNat ≤ unitOne) (hsus : e.sustain.toNat ≤ unitOne) :
    EnvelopeInv { startAttack e with gate := true } := by
  have htop : 2147483648 ≤ unitOne := unitOne_eq.ge
  constructor <;> simp [startAttack, enterSeg, hlevel, hsus, htop]

theorem gateOn_envelopeInv {e : Envelope} (h : EnvelopeInv e) : EnvelopeInv (gateOn e) := by
  unfold gateOn
  split
  · next hidle => exact startAttack_envelopeInv (by simp [(h.idle hidle).1]) h.sustain_le
  · exact startAttack_envelopeInv h.level_le h.sustain_le
  · exact startAttack_envelopeInv h.level_le h.sustain_le
  · exact startAttack_envelopeInv h.level_le h.sustain_le
  · next hattack =>
    have hopen : e.gate = true := h.gate_iff.mpr (.inl hattack)
    rwa [← hopen]

theorem gateOff_envelopeInv {e : Envelope} (h : EnvelopeInv e) : EnvelopeInv (gateOff e) := by
  unfold gateOff
  split
  · constructor <;> simp [enterSeg, h.level_le, h.sustain_le]
  · exact h

/-- At its deadline a running segment reaches its target exactly and hands over to the next phase (R115). -/
theorem segmentStep_deadline (P : Params) {e : Envelope} (hrem : e.remain.toNat ≤ 1) :
    segmentStep P e = completeSegment { e with level := e.target, remain := 0#32 } := by
  have hread : pattern32 (unsignedOf e.target) = e.target := by simp [pattern32, unsignedOf]
  simp only [segmentStep, segStep_deadline hrem, hread, if_true]

/-- A number between 0 and 1.0 is still at most 1.0 when read back from its register. -/
theorem toNat_pattern32_le_unitOne {v : Int} (h₁ : 0 ≤ v) (h₂ : v ≤ 2 ^ 31) : (pattern32 v).toNat ≤ unitOne := by
  have hread := unsignedOf_pattern32 v h₁ (by omega)
  rw [unsignedOf] at hread
  rw [unitOne_eq]
  omega

/-- Before its deadline a running segment moves the level, still at most 1.0, and counts one tick down (R115, R118). -/
theorem segmentStep_running {P : Params} (hP : P.Legal) {e : Envelope} (hrem : 1 < e.remain.toNat)
    (hlevel : e.level.toNat ≤ unitOne) (htarget : e.target.toNat ≤ unitOne) :
    ∃ level : Word, level.toNat ≤ unitOne ∧ segmentStep P e = { e with level, remain := e.remain - 1#32 } := by
  have hcount := segStep_counts_down hrem P (unsignedOf e.level) (unsignedOf e.target) e.curve (segDuration e e.phase)
  refine ⟨_, ?_, by simp only [segmentStep, hcount]; rfl⟩
  obtain ⟨hup, hdown⟩ := segStepNeverOvershoots P hP (unsignedOf e.level) (unsignedOf e.target) e.remain e.curve
    (segDuration e e.phase)
  rw [unitOne_eq] at hlevel htarget
  have hlevel' : 0 ≤ unsignedOf e.level ∧ unsignedOf e.level ≤ 2 ^ 31 := by unfold unsignedOf; omega
  have htarget' : 0 ≤ unsignedOf e.target ∧ unsignedOf e.target ≤ 2 ^ 31 := by unfold unsignedOf; omega
  exact toNat_pattern32_le_unitOne (by omega) (by omega)

/-- A curve step before the deadline keeps the invariant: in the phases that move, the count only falls. -/
theorem EnvelopeInv.counted {e : Envelope} (h : EnvelopeInv e) (hrem : 1 < e.remain.toNat) {level : Word}
    (hlevel : level.toNat ≤ unitOne) : EnvelopeInv { e with level, remain := e.remain - 1#32 } := by
  have hless : (e.remain - 1#32).toNat ≤ e.remain.toNat := by rw [toNat_sub_one hrem.le]; exact Nat.sub_le _ _
  exact
    { h with
      level_le := hlevel
      idle := fun hph => by simp [(h.idle hph).2.2] at hrem
      attack := fun hph => ⟨(h.attack hph).1, hless.trans (h.attack hph).2⟩
      decay := fun hph => ⟨(h.decay hph).1, hless.trans (h.decay hph).2⟩
      sustained := fun hph => by simp [(h.sustained hph).2.2] at hrem
      release := fun hph => ⟨(h.release hph).1, hless.trans (h.release hph).2⟩ }

/-- The hand-over at a deadline keeps the invariant: each phase starts where its own clause of R36 wants it. -/
theorem completeSegment_envelopeInv {e : Envelope} (h : EnvelopeInv e) :
    EnvelopeInv (completeSegment { e with level := e.target, remain := 0#32 }) := by
  have hgate := h.gate_iff
  have htarget := h.target_le
  cases hph : e.phase with
  | idle => constructor <;> simp_all [completeSegment, h.sustain_le, (h.idle hph).2.1]
  | attack => constructor <;> simp_all [completeSegment, enterSeg, h.sustain_le]
  | decay => constructor <;> simp_all [completeSegment, h.sustain_le, (h.decay hph).1]
  | sustain => constructor <;> simp_all [completeSegment, h.sustain_le, (h.sustained hph).2.1]
  | release => constructor <;> simp_all [completeSegment, h.sustain_le, (h.release hph).1]

theorem segmentStep_envelopeInv {P : Params} (hP : P.Legal) {e : Envelope} (h : EnvelopeInv e) :
    EnvelopeInv (segmentStep P e) := by
  by_cases hrem : e.remain.toNat ≤ 1
  · rw [segmentStep_deadline P hrem]
    exact completeSegment_envelopeInv h
  · rw [Nat.not_le] at hrem
    obtain ⟨level, hlevel, heq⟩ := segmentStep_running hP hrem h.level_le h.target_le
    rw [heq]
    exact h.counted hrem hlevel

theorem envelopeAdvance_envelopeInv {P : Params} (hP : P.Legal) {e : Envelope} (h : EnvelopeInv e) :
    EnvelopeInv (envelopeAdvance P e) := by
  unfold envelopeAdvance
  split
  · exact h
  · exact h
  · exact segmentStep_envelopeInv hP h
  · exact segmentStep_envelopeInv hP h
  · exact segmentStep_envelopeInv hP h

/-! ### The mapper (10_state.md R57) -/

/-- A pitch, shifted into the accumulator, survives it. -/
theorem toInt_pattern48_noteTarget (m : Mapper) (mem : Memory) (n : Nat) :
    (pattern48 (noteTarget m mem n * 2 ^ 16)).toInt = noteTarget m mem n * 2 ^ 16 := by
  have hge : -2147483648 ≤ noteTarget m mem n := sat32_ge _
  have hle : noteTarget m mem n ≤ 2147483647 := sat32_le _
  exact toInt_pattern48 _ (by omega) (by omega)

/-- Every curve gives a level of at most 1.0 (43_midi_to_cv.md R158). -/
theorem velCurve_le {P : Params} (hP : P.Legal) (m : Mapper) {mem : Memory}
    (hvlut : ∀ i, (memRead mem .vlut i).toNat ≤ unitOne) {v : Nat} (hv₁ : 1 ≤ v) (hv : v ≤ 127) :
    (velCurve P m mem v).toNat ≤ unitOne := by
  unfold velCurve
  split
  · rw [fdiv_eq_div _ (by norm_num)]
    exact toNat_pattern32_le_unitOne (by omega) (by omega)
  · have hexp := hP.velExp_le v hv₁ hv
    rw [unitOne_eq] at hexp
    exact toNat_pattern32_le_unitOne (by omega) (by omega)
  · exact hvlut v

theorem noteOn_scale (P : Params) (mem : Memory) (note vel : Nat) (m : Mapper) :
    (noteOn P mem note vel m).scale = m.scale := by
  unfold noteOn; split <;> rfl

theorem noteOn_zeroNote (P : Params) (mem : Memory) (note vel : Nat) (m : Mapper) :
    (noteOn P mem note vel m).zeroNote = m.zeroNote := by
  unfold noteOn; split <;> rfl

/-- A note-on keeps the mapper invariant: with glide off the accumulator is put at the new target, with glide on it
stays where it is and a glide of the configured length starts (R152). -/
theorem noteOn_mapperInv {P : Params} (hP : P.Legal) {s : State} (h : Inv s) {note vel : Nat} (hnote : note ≤ 127)
    (hvel₁ : 1 ≤ vel) (hvel : vel ≤ 127) : MapperInv (s.setMap (noteOn P s.mem note vel s.map)) := by
  have hcv := velCurve_le hP s.map h.vlut_le hvel₁ hvel
  have hfx := fxOf_noteTarget s.map s.mem note
  have hkept : (BitVec.ofNat 7 note).toNat = note := by rw [BitVec.toNat_ofNat]; omega
  have htarget (m : Mapper) (hs : m.scale = s.map.scale) (hz : m.zeroNote = s.map.zeroNote) :
      fxOf (pattern32 (noteTarget s.map s.mem note)) = noteTarget m s.mem (BitVec.ofNat 7 note).toNat := by
    rw [hkept, hfx, noteTarget_congr hs hz]
  by_cases hglide : s.map.glideEn = true
  · rw [noteOn, if_pos hglide]
    exact ⟨hcv, h.mapper.acc_le, fun _ => le_refl _, fun _ => htarget _ rfl rfl,
      fun _ hoff => absurd (hglide.symm.trans hoff) (by decide)⟩
  · have hacc := toInt_pattern48_noteTarget s.map s.mem note
    have hle : noteTarget s.map s.mem note ≤ 2147483647 := sat32_le _
    rw [noteOn, if_neg hglide]
    exact ⟨hcv, hacc.trans_le (by omega), fun _ => Nat.zero_le _, fun _ => htarget _ rfl rfl,
      fun _ _ => ⟨hacc.trans (congrArg (· * 2 ^ 16) hfx.symm), rfl⟩⟩

/-- The curve step of the accumulator toward the target (R163). -/
def glideStep (P : Params) (m : Mapper) : Int × Word × Bool :=
  segStep P m.acc.toInt (fxOf m.target * 2 ^ 16) m.slewRemain m.glideCurve m.glideT

theorem mapperAdvance_eq (P : Params) (m : Mapper) :
    mapperAdvance P m = { m with acc := pattern48 (glideStep P m).1, slewRemain := (glideStep P m).2.1 } := rfl

/-- One tick of a glide leaves the accumulator between where it was and the target, so within its 48 bits. -/
theorem glideStep_range {P : Params} (hP : P.Legal) {m : Mapper} (hacc : m.acc.toInt ≤ (2 ^ 31 - 1) * 2 ^ 16) :
    -2 ^ 47 ≤ (glideStep P m).1 ∧ (glideStep P m).1 ≤ (2 ^ 31 - 1) * 2 ^ 16 := by
  obtain ⟨hup, hdown⟩ := segStepNeverOvershoots P hP m.acc.toInt (fxOf m.target * 2 ^ 16) m.slewRemain m.glideCurve
    m.glideT
  have hlow : -2 ^ 47 ≤ m.acc.toInt := BitVec.le_toInt m.acc
  have htlow : -2 ^ 31 ≤ fxOf m.target := BitVec.le_toInt m.target
  have hthigh : fxOf m.target < 2 ^ 31 := BitVec.toInt_lt
  unfold glideStep
  omega

/-- A curve step never lengthens what remains. -/
theorem segStep_remain_le (P : Params) (cur tgt : Int) (rem : Word) (curve : Curve) (dur : Word) :
    (segStep P cur tgt rem curve dur).2.1.toNat ≤ rem.toNat := by
  by_cases hrem : rem.toNat ≤ 1
  · rw [segStep_deadline hrem]
    exact Nat.zero_le _
  · rw [segStep_counts_down (Nat.not_le.mp hrem)]
    exact (toNat_sub_one (by omega)).trans_le (Nat.sub_le _ _)

theorem mapperAdvance_mapperInv {P : Params} (hP : P.Legal) {s : State} (h : MapperInv s) :
    MapperInv (s.setMap (mapperAdvance P s.map)) := by
  obtain ⟨hlow, hhigh⟩ := glideStep_range hP h.acc_le
  have hread := toInt_pattern48 (glideStep P s.map).1 (by omega) (by omega)
  rw [mapperAdvance_eq]
  refine ⟨h.velCv_le, hread.trans_le hhigh, fun hm => ?_, h.target_eq, fun hm hoff => ?_⟩
  · exact (segStep_remain_le ..).trans (h.remain_le hm)
  · have hdone : glideStep P s.map = (fxOf s.map.target * 2 ^ 16, 0#32, true) :=
      segStep_deadline (by simp [(h.settled hm hoff).2]) ..
    exact ⟨hread.trans (congrArg Prod.fst hdone), congrArg (·.2.1) hdone⟩

/-- The mapper invariant says nothing of the bend. -/
theorem MapperInv.setBend {s : State} (h : MapperInv s) (b : BitVec 14) : MapperInv (s.setMap { s.map with bend := b }) :=
  { h with }

/-! ### Construction (40_clock_and_lifecycle.md R102 to R104) -/

/-- A check that finds no cause means a constructible block. -/
theorem constructible_of_configCheck {s : State} (h : configCheck s = 0#3) :
    s.sys.tickPeriod ≠ 0#32 ∧ 0 < fxOf s.map.scale ∧
      ∀ n < 127, noteTarget s.map s.mem n ≤ noteTarget s.map s.mem (n + 1) := by
  have h₀ := configCheck_bit0 s
  have h₁ := configCheck_bit1 s
  have h₂ := configCheck_bit2 s
  simp only [h] at h₀ h₁ h₂
  exact ⟨by simpa using h₀, by simpa using h₁, (trimNonMonotone_eq_false_iff _ _).mp h₂.symm⟩

theorem runInitEnvelope_envelopeInv {e : Envelope} (hsus : e.sustain.toNat ≤ unitOne) :
    EnvelopeInv (runInitEnvelope e) := by
  constructor <;> simp [runInitEnvelope, hsus]

/-- A constructed mapper rests at the pitch of the zero note (R104). -/
theorem construct_mapperInv (s : State) : MapperInv (construct s) := by
  have hacc := toInt_pattern48_noteTarget s.map s.mem s.map.zeroNote.toNat
  have hfx := fxOf_noteTarget s.map s.mem s.map.zeroNote.toNat
  have hle : noteTarget s.map s.mem s.map.zeroNote.toNat ≤ 2147483647 := sat32_le _
  exact ⟨Nat.zero_le _, hacc.trans_le (by omega), fun _ => Nat.zero_le _, fun _ => hfx,
    fun _ _ => ⟨hacc.trans (congrArg (· * 2 ^ 16) hfx.symm), rfl⟩⟩

/-- A successful construction in CONFIG establishes what RUN asks for. -/
theorem Inv.construct {s : State} (h : Inv s) (hm : s.sys.mode = .config) (hcheck : configCheck s = 0#3) :
    Inv (construct s) where
  memory := h.memory
  vlut_le := h.vlut_le
  envelope := runInitEnvelope_envelopeInv h.envelope.sustain_le
  mapper := construct_mapperInv s
  cause_iff := by
    have hcause : s.sys.cfgCause = 0#3 := by simpa [hm] using h.cause_iff
    simp [Machine.construct, hcause]
  fresh hne := absurd rfl hne
  valid _ := by
    obtain ⟨hperiod, hscale, hmono⟩ := constructible_of_configCheck hcheck
    exact ⟨hperiod, hscale, hmono⟩

/-- A failed construction in CONFIG latches a cause and leaves the run-time registers at reset. -/
theorem Inv.failConstruction {s : State} (h : Inv s) (hm : s.sys.mode = .config) {mask : BitVec 3} (hmask : mask ≠ 0#3) :
    Inv (failConstruction mask s) := by
  have hfresh := h.fresh (by simp [hm])
  refine .of_ne_run (by simp [Machine.failConstruction]) h.memory h.vlut_le h.envelope.sustain_le
    (by simp [Machine.failConstruction, hmask]) ?_
  exact { hfresh with }

/-! ### Configuration writes (44_register_access.md R176, R177) -/

theorem writeLfoCtrl_runTime (v : Word) (l : Lfo) :
    (writeLfoCtrl v l).phase = l.phase ∧ (writeLfoCtrl v l).hold = l.hold ∧ (writeLfoCtrl v l).rng = l.rng := by
  unfold writeLfoCtrl
  split <;> exact ⟨rfl, rfl, rfl⟩

/-- `MAP_CTRL` holds no run-time register. -/
theorem writeMapCtrl_eq (v : Word) (m : Mapper) :
    ∃ velCurve glideEn glideCurve, writeMapCtrl v m = { m with velCurve, glideEn, glideCurve } := by
  unfold writeMapCtrl
  split
  · exact ⟨_, _, _, rfl⟩
  · exact ⟨m.velCurve, m.glideEn, m.glideCurve, rfl⟩

/-- No configuration register is a run-time register, so a write keeps them all at reset. -/
theorem RunTimeAtReset.writeReg {s : State} (h : RunTimeAtReset s) (x : Reg) (v : Word) :
    RunTimeAtReset (writeReg x v s) := by
  cases x
  case lfoCtrl =>
    obtain ⟨hphase, hhold, hrng⟩ := writeLfoCtrl_runTime v s.lfo
    exact { h with lfoPhase := hphase.trans h.lfoPhase, hold := hhold.trans h.hold, rng := hrng.trans h.rng }
  case mapCtrl =>
    obtain ⟨velCurve, glideEn, glideCurve, heq⟩ := writeMapCtrl_eq v s.map
    simp only [Machine.writeReg, heq]
    exact { h with }
  all_goals exact { h with }

theorem writeReg_mode (x : Reg) (v : Word) (s : State) : (writeReg x v s).sys.mode = s.sys.mode := by cases x <;> rfl

theorem writeReg_cfgCause (x : Reg) (v : Word) (s : State) : (writeReg x v s).sys.cfgCause = s.sys.cfgCause := by
  cases x <;> rfl

/-- A legal write keeps the sustain level at most 1.0. -/
theorem writeReg_sustain_le {x : Reg} {v : Word} {s : State} (hlegal : regLegal x v s = true)
    (h : s.env.sustain.toNat ≤ unitOne) : (writeReg x v s).env.sustain.toNat ≤ unitOne := by
  cases x
  case envSustain => exact of_decide_eq_true hlegal
  all_goals exact h

/-- Only a write through the window changes a table. -/
theorem writeReg_mem {x : Reg} (hx : x ≠ .tabData) (v : Word) (s : State) : (writeReg x v s).mem = s.mem := by
  cases x
  case tabData => exact absurd rfl hx
  all_goals rfl

theorem writeReg_mem_wf (x : Reg) (v : Word) {s : State} (h : s.mem.wf = true) : (writeReg x v s).mem.wf = true := by
  by_cases hx : x = .tabData
  · subst hx
    exact memWrite_wf h s.tab.sel s.tab.idx.isLt v
  · rwa [writeReg_mem hx]

/-- A legal write keeps every entry of the velocity table at most 1.0 (20_memory.md R64). -/
theorem writeReg_vlut_le {x : Reg} {v : Word} {s : State} (hlegal : regLegal x v s = true) (hwf : s.mem.wf = true)
    (h : ∀ i, (memRead s.mem .vlut i).toNat ≤ unitOne) (i : Nat) :
    (memRead (writeReg x v s).mem .vlut i).toNat ≤ unitOne := by
  by_cases hx : x = .tabData
  · subst hx
    have hv : s.tab.sel = .trim ∨ v.toNat ≤ unitOne := of_decide_eq_true hlegal
    change (memRead (memWrite s.mem s.tab.sel s.tab.idx.toNat v) .vlut i).toNat ≤ unitOne
    by_cases hentry : .vlut = s.tab.sel ∧ i = s.tab.idx.toNat
    · obtain ⟨hsel, rfl⟩ := hentry
      rw [hsel, memRead_memWrite_same hwf]
      exact hv.resolve_left (by simp [← hsel])
    · rw [memRead_memWrite_other _ (not_and_or.mp hentry)]
      exact h i
  · rw [writeReg_mem hx]
    exact h i

/-- A legal write in CONFIG keeps the invariant. -/
theorem Inv.writeReg_config {s : State} (h : Inv s) (hm : s.sys.mode = .config) {x : Reg} {v : Word}
    (hlegal : regLegal x v s = true) : Inv (writeReg x v s) := by
  refine .of_ne_run ?_ (writeReg_mem_wf x v h.memory) (writeReg_vlut_le hlegal h.memory h.vlut_le)
    (writeReg_sustain_le hlegal h.envelope.sustain_le) ?_ ((h.fresh ?_).writeReg x v)
  · simp [writeReg_mode, hm]
  · rw [writeReg_cfgCause, writeReg_mode]
    exact h.cause_iff
  · simp [hm]

/-! ### The commands -/

theorem execInit_endsInInv {s : State} (h : Inv s) : EndsInInv (execInit s) := by
  refine h.inMode fun hm => ?_
  split
  · next hcheck => exact (h.construct hm hcheck).respond _
  · next hcheck => exact (h.failConstruction hm hcheck).raise _ _

theorem execEnvGate_endsInInv {s : State} (h : Inv s) (on : Bool) : EndsInInv (execEnvGate on s) := by
  refine h.inMode fun hm => (h.setEnv_of_run hm ?_).respond _
  split
  · exact gateOn_envelopeInv h.envelope
  · exact gateOff_envelopeInv h.envelope

theorem execEnvAdvWith_endsInInv {P : Params} (hP : P.Legal) {s : State} (h : Inv s) : EndsInInv (execEnvAdvWith P s) :=
  h.inMode fun hm => (h.setEnv_of_run hm (envelopeAdvance_envelopeInv hP h.envelope)).respond _

theorem execMapNoteonWith_endsInInv {P : Params} (hP : P.Legal) {s : State} (h : Inv s) (note vel : BitVec 8) :
    EndsInInv (execMapNoteonWith P note vel s) := by
  refine h.inMode fun hm => ?_
  split
  · exact h.raise _ _
  split
  · exact h.raise _ _
  split
  · exact h.respond _
  · exact (h.setMap_of_run hm (noteOn_mapperInv hP h (by omega) (by omega) (by omega)) (noteOn_scale ..)
      (noteOn_zeroNote ..)).respond _

theorem execMapAdvWith_endsInInv {P : Params} (hP : P.Legal) {s : State} (h : Inv s) : EndsInInv (execMapAdvWith P s) :=
  h.inMode fun hm => (h.setMap_of_run hm (mapperAdvance_mapperInv hP h.mapper) rfl rfl).respond _

theorem execMapNoteoff_endsInInv {s : State} (h : Inv s) (note : BitVec 8) : EndsInInv (execMapNoteoff note s) := by
  refine h.inMode fun _ => ?_
  split
  · exact h.raise _ _
  · exact h.respond _

theorem execMapBend_endsInInv {s : State} (h : Inv s) (bend : BitVec 16) : EndsInInv (execMapBend bend s) := by
  refine h.inMode fun hm => ?_
  split
  · exact h.raise _ _
  · exact (h.setMap_of_run hm (h.mapper.setBend (BitVec.ofInt 14 (bendNumber bend))) rfl rfl).respond _

/-- `TAB_ADDR` is the one register that is written in every mode; the others wait for CONFIG. -/
theorem wrcfgReg_endsInInv {s : State} (h : Inv s) (x : Reg) (value : Word) : EndsInInv (wrcfgReg x value s) := by
  unfold wrcfgReg
  split
  · exact h.raise _ _
  · next hallowed =>
    split
    · next hlegal =>
      refine Inv.respond ?_ _
      by_cases hx : x = .tabAddr
      · subst hx
        exact h.withPort _ s.inbox s.response
      · exact h.writeReg_config (not_not.mp fun hm => hallowed ⟨hx, hm⟩) hlegal
    · exact h.raise _ _

theorem execWrcfg_endsInInv {s : State} (h : Inv s) (r : BitVec 6) (value : Word) : EndsInInv (execWrcfg r value s) := by
  unfold execWrcfg
  split
  · exact h.raise _ _
  split
  · exact h.raise _ _
  split
  · exact h.raise _ _
  · exact wrcfgReg_endsInInv h _ value

theorem execRdregWith_endsInInv (P : Params) {s : State} (h : Inv s) (r : BitVec 6) : EndsInInv (execRdregWith P r s) := by
  unfold execRdregWith
  split
  · exact h.raise _ _
  · exact h.respond _

/-- Settles O51: command by command, each by the part of the invariant it touches. -/
theorem everyCommandKeepsTheInvariantForAllParameters : Obligations.EveryCommandKeepsTheInvariantForAllParameters := by
  intro P hP i s t h ht
  suffices hends : EndsInInv (execWith P i s) from hends t ht
  cases i with
  | init => exact execInit_endsInInv h
  | tick => exact h.inMode fun hm => (h.setTickCount_of_run hm _).respond _
  | envGate on => exact execEnvGate_endsInInv h on
  | envAdv => exact execEnvAdvWith_endsInInv hP h
  | lfoSetf value => exact h.inMode fun hm => (h.setLfo_of_run hm _).respond _
  | lfoAdv => exact h.inMode fun hm => (h.setLfo_of_run hm _).respond _
  | lfoSync => exact h.inMode fun hm => (h.setLfo_of_run hm _).respond _
  | mapNoteon note vel => exact execMapNoteonWith_endsInInv hP h note vel
  | mapAdv => exact execMapAdvWith_endsInInv hP h
  | mapNoteoff note => exact execMapNoteoff_endsInInv h note
  | mapBend bend => exact execMapBend_endsInInv h bend
  | wrcfg r value => exact execWrcfg_endsInInv h r value
  | rdreg r => exact execRdregWith_endsInInv P h r

end Sys2Proof.Machine

/-! PROOFS of the statements of 10_state.md: the invariant along every step (R36, R57), what the registers show
(R21, R28, R55), and which of them each command may change (R56). -/

namespace Sys2Proof.Machine

/-! ### The invariant from reset on (10_state.md R36, R57) -/

theorem reset_runTimeAtReset : RunTimeAtReset State.reset := by constructor <;> rfl

theorem memRead_reset (space : TableSel) (i : Nat) : memRead State.reset.mem space i = 0#32 := by cases space <;> rfl

/-- Settles O49: reset is not RUN, and there the invariant asks for reset values only. -/
theorem resetStateIsSafe : Obligations.ResetStateIsSafe := by
  refine Inv.of_ne_run (by decide) reset_memory_wf (fun i => ?_) (by decide) (by decide) reset_runTimeAtReset
  rw [memRead_reset]
  exact Nat.zero_le _

/-- What one step can do: nothing waits, a reset is taken, or a command word is taken and performed. -/
theorem step_cases {s t : State} (h : step s = .next t) :
    (s.inbox = [] ∧ t = s) ∨
      (∃ rest, s.inbox = .reset :: rest ∧ t = { State.reset with inbox := rest }) ∨
      ∃ w rest, s.inbox = .command w :: rest ∧ performWord w { s with inbox := rest } = .next t := by
  cases hbox : s.inbox with
  | nil =>
    rw [step, fetchInput_nil hbox] at h
    exact .inl ⟨rfl, (Host.Outcome.next.inj h).symm⟩
  | cons x rest =>
    cases x with
    | reset =>
      rw [step, fetchInput_cons hbox] at h
      exact .inr (.inl ⟨rest, rfl, (Host.Outcome.next.inj h).symm⟩)
    | command w => exact .inr (.inr ⟨w, rest, rfl, by rw [← step_command hbox, h]⟩)

theorem exec_endsInInv {s : State} (h : Inv s) (i : Instr) : EndsInInv (exec i s) := fun t ht =>
  everyCommandKeepsTheInvariantForAllParameters params defaultParametersAreLegal i s t h
    (execIsTheParametricExecAtDefaults i s ▸ ht)

theorem performWord_endsInInv {s : State} (h : Inv s) (w : CommandWord) : EndsInInv (performWord w s) := by
  cases hdec : decode w with
  | ok i => rw [performWord_of_ok hdec]; exact exec_endsInInv h i
  | error cause => rw [performWord_of_error hdec]; exact h.raise _ _

/-- Settles O50: a command is performed under the default parameters, which are legal, a reset gives the reset state, and
the invariant says nothing of the waiting inputs. -/
theorem everyStepKeepsTheInvariant : Obligations.EveryStepKeepsTheInvariant := by
  intro s t h hstep
  obtain ⟨-, rfl⟩ | ⟨rest, -, rfl⟩ | ⟨w, rest, -, hperform⟩ := step_cases hstep
  · exact h
  · exact resetStateIsSafe.withPort _ rest _
  · exact performWord_endsInInv (h.withPort s.tab rest s.response) w t hperform

/-! ### The register map and the reset values (10_state.md R21, R55) -/

/-- Settles O42: the register map, number by number. -/
theorem writableRegisterTable : Obligations.WritableRegisterTable := by
  unfold Obligations.WritableRegisterTable
  decide +kernel

/-- With no amplitude and no offset the LFO shows zero, whatever its waveform and its parameters. -/
theorem lfoOut_of_flat (P : Params) {l : Lfo} (hamp : l.amp = 0#32) (hoff : l.offset = 0#32) : lfoOut P l = 0 := by
  simp [lfoOut, hamp, hoff, fxOf, mulq, fdiv, sat32]

theorem readReg_reset (P : Params) (x : Reg) : readReg P x State.reset =
    if x = .id then 0x4D474531#32 else if x = .lfoDuty then 0x80000000#32 else 0#32 := by
  cases x
  case lfoValue => exact congrArg pattern32 (lfoOut_of_flat P rfl rfl)
  all_goals rfl

/-- The reset configuration has the causes PERIOD_ZERO and SCALE_NONPOS (40_clock_and_lifecycle.md R103). -/
theorem configCheck_reset : configCheck State.reset = 3#3 := by decide +kernel

/-- Settles O9. -/
theorem resetRegisterValues : Obligations.ResetRegisterValues := by
  refine ⟨readReg_reset, memRead_reset, ?_⟩
  change execInit State.reset = _
  rw [execInit, inMode_of_eq (m := .config) (s := State.reset) rfl, configCheck_reset]
  rfl

/-! ### What a read shows (10_state.md R25 to R52) -/

theorem exec_rdreg (x : Reg) (s : State) :
    exec (.rdreg (regNumber x)) s = .next (answered s .ok (readReg params x s)) := by
  change execRdregWith params (regNumber x) s = _
  simp only [execRdregWith, regOfNumber_regNumber]
  rfl

theorem elapsed_lt (u : SystemUnit) : elapsed u < 2 ^ 64 :=
  (Nat.mul_lt_mul'' u.tickCount.isLt u.tickPeriod.isLt).trans_eq (by norm_num)

/-- Settles O17: the product is below 2^64, so its two halves fill two registers. -/
theorem elapsedReadsTheExactProduct : Obligations.ElapsedReadsTheExactProduct := by
  intro s
  refine ⟨_, _, exec_rdreg .elapsedS s, exec_rdreg .elapsedFrac s, ?_⟩
  have hlt := elapsed_lt s.sys
  change _ = elapsed s.sys
  simp only [readReg, BitVec.toNat_ofNat]
  omega

/-! ### The assembled and widened registers (10_state.md R25 to R52) -/

theorem statusWord_toNat (u : SystemUnit) :
    (statusWord u).toNat = (modeCode u.mode).toNat + 16 * u.cfgCause.toNat := by
  simp only [statusWord, toNat_join, BitVec.toNat_ofNat]
  omega

theorem envCtrlWord_toNat (e : Envelope) : (envCtrlWord e).toNat = (curveCode e.curve).toNat + 2 * e.legato.toNat := by
  simp only [envCtrlWord, toNat_join, BitVec.toNat_ofNat, BitVec.toNat_ofBool]
  omega

theorem envStateWord_toNat (e : Envelope) :
    (envStateWord e).toNat = (phaseCode e.phase).toNat + 16 * e.gate.toNat := by
  simp only [envStateWord, toNat_join, BitVec.toNat_ofNat, BitVec.toNat_ofBool]
  omega

theorem lfoCtrlWord_toNat (l : Lfo) : (lfoCtrlWord l).toNat = (waveCode l.wave).toNat := by
  simp only [lfoCtrlWord, toNat_join, BitVec.toNat_ofNat]
  omega

theorem mapCtrlWord_toNat (m : Mapper) : (mapCtrlWord m).toNat =
    (velCurveCode m.velCurve).toNat + 4 * m.glideEn.toNat + 8 * (curveCode m.glideCurve).toNat := by
  simp only [mapCtrlWord, toNat_join, BitVec.toNat_ofNat, BitVec.toNat_ofBool]
  omega

theorem tabAddrWord_toNat (t : TabAddr) : (tabAddrWord t).toNat = t.idx.toNat + 256 * (selCode t.sel).toNat := by
  simp only [tabAddrWord, toNat_join, BitVec.toNat_ofNat]
  omega

/-- The two parts of the accumulator: its floor, and what is above it (10_state.md R47). -/
theorem acc_split (acc : BitVec 48) :
    (acc.extractLsb' 16 32).toInt * 2 ^ 16 + ((acc.extractLsb' 0 16).setWidth 32).toNat = acc.toInt := by
  have hlt := acc.isLt
  simp only [BitVec.toInt_eq_toNat_cond, BitVec.extractLsb'_toNat, BitVec.toNat_setWidth, Nat.shiftRight_eq_div_pow]
  omega

/-- Settles O47: each word by its fields, and each field by its codes. -/
theorem assembledRegistersShowTheirFields : Obligations.AssembledRegistersShowTheirFields := by
  intro P s
  refine ⟨(statusWord_toNat s.sys).trans ?_, (envCtrlWord_toNat s.env).trans ?_, (envStateWord_toNat s.env).trans ?_,
    (lfoCtrlWord_toNat s.lfo).trans ?_, (mapCtrlWord_toNat s.map).trans ?_, (tabAddrWord_toNat s.tab).trans ?_,
    BitVec.toInt_signExtend_of_le (by decide), BitVec.toInt_signExtend_of_le (by decide),
    BitVec.toNat_setWidth_of_le (by decide), BitVec.toNat_setWidth_of_le (by decide),
    BitVec.toNat_setWidth_of_le (by decide), ?_, acc_split s.map.acc⟩
  · cases s.sys.mode <;> rfl
  · cases s.env.curve <;> rfl
  · cases s.env.phase <;> rfl
  · cases s.lfo.wave <;> rfl
  · cases s.map.velCurve <;> cases s.map.glideCurve <;> rfl
  · cases s.tab.sel <;> rfl
  · exact (BitVec.toNat_setWidth_of_le (by decide)).trans_lt (BitVec.isLt _)

/-! ### What a command can do -/

/-- What a command that is performed makes of the state, before its response. -/
def performed : Instr → State → State
  | .init, s => construct s
  | .tick, s => s.setSys { s.sys with tickCount := s.sys.tickCount + 1#32 }
  | .envGate on, s => s.setEnv (if on then gateOn s.env else gateOff s.env)
  | .envAdv, s => s.setEnv (envelopeAdvance params s.env)
  | .lfoSetf value, s => s.setLfo { s.lfo with freq := value }
  | .lfoAdv, s => s.setLfo (lfoAdvance params s.sys.tickPeriod s.lfo)
  | .lfoSync, s => s.setLfo { s.lfo with phase := 0#32 }
  | .mapNoteon note vel, s => s.setMap (noteOn params s.mem (eventNumber note) (eventNumber vel) s.map)
  | .mapAdv, s => s.setMap (mapperAdvance params s.map)
  | .mapNoteoff _, s => s
  | .mapBend bend, s => s.setMap { s.map with bend := BitVec.ofInt 14 (bendNumber bend) }
  | .wrcfg r value, s => (regOfNumber r).elim s fun x => writeReg x value s
  | .rdreg _, s => s

/-- The ways a command can end: with nothing changed but the response, performed, or as a failed construction. -/
inductive Answer (i : Instr) (s : State) : State → Prop where
  | kept (r : Response) : Answer i s { s with response := some r }
  | performed : Answer i s { performed i s with response := some ⟨.ok, 0#32⟩ }
  | failedInit (mask : BitVec 3) (hi : i = .init) :
      Answer i s { failConstruction mask s with response := some ⟨.configurationError, mask.setWidth 32⟩ }

/-- Every next state of the result is an answer to the command. -/
def EndsInAnswer (i : Instr) (s : State) (r : Result) : Prop := ∀ t, r = .next t → Answer i s t

theorem respond_endsInAnswer {i : Instr} {s : State} {v : Word} : EndsInAnswer i s (respond v s) := by
  rintro _ ⟨⟩
  exact .kept _

theorem raise_endsInAnswer {i : Instr} {s : State} {status : Status} {info : Word} :
    EndsInAnswer i s (raise status info s) := by
  rintro _ ⟨⟩
  exact .kept _

theorem performed_endsInAnswer (i : Instr) (s : State) : EndsInAnswer i s (respond 0#32 (performed i s)) := by
  rintro _ ⟨⟩
  exact .performed

theorem inMode_endsInAnswer {i : Instr} {s : State} {body : Result} (hbody : EndsInAnswer i s body) (m : Mode) :
    EndsInAnswer i s (inMode m s body) := by
  intro t ht
  obtain ⟨-, hnext⟩ | ⟨-, rfl⟩ := inMode_cases ht
  · exact hbody t hnext
  · exact .kept _

theorem execInit_endsInAnswer (s : State) : EndsInAnswer .init s (execInit s) := by
  refine inMode_endsInAnswer ?_ _
  split
  · exact performed_endsInAnswer .init s
  · rintro _ ⟨⟩
    exact .failedInit _ rfl

theorem execMapNoteon_endsInAnswer (note vel : BitVec 8) (s : State) :
    EndsInAnswer (.mapNoteon note vel) s (execMapNoteon note vel s) := by
  refine inMode_endsInAnswer ?_ _
  split
  · exact raise_endsInAnswer
  split
  · exact raise_endsInAnswer
  split
  · exact respond_endsInAnswer
  · exact performed_endsInAnswer (.mapNoteon note vel) s

theorem execMapNoteoff_endsInAnswer (note : BitVec 8) (s : State) :
    EndsInAnswer (.mapNoteoff note) s (execMapNoteoff note s) := by
  refine inMode_endsInAnswer ?_ _
  split
  · exact raise_endsInAnswer
  · exact respond_endsInAnswer

theorem execMapBend_endsInAnswer (bend : BitVec 16) (s : State) :
    EndsInAnswer (.mapBend bend) s (execMapBend bend s) := by
  refine inMode_endsInAnswer ?_ _
  split
  · exact raise_endsInAnswer
  · exact performed_endsInAnswer (.mapBend bend) s

theorem execWrcfg_endsInAnswer (r : BitVec 6) (value : Word) (s : State) :
    EndsInAnswer (.wrcfg r value) s (execWrcfg r value s) := by
  have hperformed := performed_endsInAnswer (.wrcfg r value) s
  unfold execWrcfg
  split
  · exact raise_endsInAnswer
  next x hx =>
  split
  · exact raise_endsInAnswer
  split
  · exact raise_endsInAnswer
  unfold wrcfgReg
  split
  · exact raise_endsInAnswer
  split
  · simpa only [performed, hx, Option.elim_some] using hperformed
  · exact raise_endsInAnswer

theorem execRdreg_endsInAnswer (r : BitVec 6) (s : State) : EndsInAnswer (.rdreg r) s (execRdreg r s) := by
  unfold execRdreg execRdregWith
  split
  · exact raise_endsInAnswer
  · exact respond_endsInAnswer

/-- What a command can do, command by command. -/
theorem exec_endsInAnswer (i : Instr) (s : State) : EndsInAnswer i s (exec i s) := by
  cases i with
  | init => exact execInit_endsInAnswer s
  | tick => exact inMode_endsInAnswer (performed_endsInAnswer .tick s) _
  | envGate on => exact inMode_endsInAnswer (performed_endsInAnswer (.envGate on) s) _
  | envAdv => exact inMode_endsInAnswer (performed_endsInAnswer .envAdv s) _
  | lfoSetf value => exact inMode_endsInAnswer (performed_endsInAnswer (.lfoSetf value) s) _
  | lfoAdv => exact inMode_endsInAnswer (performed_endsInAnswer .lfoAdv s) _
  | lfoSync => exact inMode_endsInAnswer (performed_endsInAnswer .lfoSync s) _
  | mapNoteon note vel => exact execMapNoteon_endsInAnswer note vel s
  | mapAdv => exact inMode_endsInAnswer (performed_endsInAnswer .mapAdv s) _
  | mapNoteoff note => exact execMapNoteoff_endsInAnswer note s
  | mapBend bend => exact execMapBend_endsInAnswer bend s
  | wrcfg r value => exact execWrcfg_endsInAnswer r value s
  | rdreg r => exact execRdreg_endsInAnswer r s

/-! ### Which fields a unit's operations may write (10_state.md R56) -/

theorem gateOn_eq (e : Envelope) :
    ∃ phase level target remain, gateOn e = { e with phase, gate := true, level, target, remain } := by
  unfold gateOn
  split <;> exact ⟨_, _, _, _, rfl⟩

theorem gateOff_eq (e : Envelope) :
    ∃ phase gate target remain, gateOff e = { e with phase, gate, target, remain } := by
  unfold gateOff
  split <;> exact ⟨_, _, _, _, rfl⟩

theorem completeSegment_eq (e : Envelope) :
    ∃ phase target remain, completeSegment e = { e with phase, target, remain } := by
  unfold completeSegment
  split <;> exact ⟨_, _, _, rfl⟩

theorem segmentStep_eq (P : Params) (e : Envelope) :
    ∃ phase level target remain, segmentStep P e = { e with phase, level, target, remain } := by
  unfold segmentStep
  obtain ⟨level, remain, done⟩ :=
    segStep P (unsignedOf e.level) (unsignedOf e.target) e.remain e.curve (segDuration e e.phase)
  cases done with
  | false => exact ⟨_, _, _, _, rfl⟩
  | true =>
    obtain ⟨phase, target, remain', heq⟩ := completeSegment_eq { e with level := pattern32 level, remain }
    exact ⟨phase, _, target, remain', heq⟩

theorem gate_eq (on : Bool) (e : Envelope) :
    ∃ phase gate level target remain,
      (if on then gateOn e else gateOff e) = { e with phase, gate, level, target, remain } := by
  cases on with
  | true =>
    obtain ⟨phase, level, target, remain, heq⟩ := gateOn_eq e
    exact ⟨phase, true, level, target, remain, heq⟩
  | false =>
    obtain ⟨phase, gate, target, remain, heq⟩ := gateOff_eq e
    exact ⟨phase, gate, e.level, target, remain, heq⟩

/-- `ENV.ADV` leaves the gate alone. -/
theorem envelopeAdvance_eq (P : Params) (e : Envelope) :
    ∃ phase level target remain, envelopeAdvance P e = { e with phase, level, target, remain } := by
  unfold envelopeAdvance
  split
  · exact ⟨_, _, _, _, rfl⟩
  · exact ⟨_, _, _, _, rfl⟩
  all_goals exact segmentStep_eq P e

theorem lfoAdvance_eq (P : Params) (period : Word) (l : Lfo) :
    ∃ phase hold rng, lfoAdvance P period l = { l with phase, hold, rng } := by
  simp only [lfoAdvance]
  split <;> exact ⟨_, _, _, rfl⟩

theorem noteOn_eq (P : Params) (mem : Memory) (note vel : Nat) (m : Mapper) :
    ∃ note' target velCv slewRemain acc,
      noteOn P mem note vel m = { m with note := note', target, velCv, slewRemain, acc } := by
  simp only [noteOn]
  split <;> exact ⟨_, _, _, _, _, rfl⟩

theorem writeLfoCtrl_eq (v : Word) (l : Lfo) : ∃ wave, writeLfoCtrl v l = { l with wave } := by
  unfold writeLfoCtrl
  split <;> exact ⟨_, rfl⟩

/-! ### Which registers show a write -/

theorem readReg_withResponse (P : Params) (x : Reg) (s : State) (r : Option Response) :
    readReg P x { s with response := r } = readReg P x s := by cases x <;> rfl

/-- `STATUS` alone shows a failed construction (40_clock_and_lifecycle.md R102). -/
theorem readReg_failConstruction {x : Reg} (hx : x ≠ .status) (P : Params) (mask : BitVec 3) (s : State) :
    readReg P x (failConstruction mask s) = readReg P x s := by
  cases x
  case status => contradiction
  all_goals rfl

/-- A configuration write shows in its own register, and at most in computed ones and the window beside it: a check of the
register map, pair by pair. -/
theorem readReg_writeReg_other {x y : Reg} (hne : y ≠ x) (hcmp : regClass y ≠ .cmp) (hwin : regClass y ≠ .win) (P : Params)
    (v : Word) (s : State) : readReg P y (writeReg x v s) = readReg P y s := by
  cases x
  case' lfoCtrl =>
    obtain ⟨wave, heq⟩ := writeLfoCtrl_eq v s.lfo
    simp only [writeReg, heq]
  case' mapCtrl =>
    obtain ⟨velCurve, glideEn, glideCurve, heq⟩ := writeMapCtrl_eq v s.map
    simp only [writeReg, heq]
  all_goals cases y <;> first | contradiction | rfl

theorem writeReg_of_not_writable {x : Reg} (h : regWritable x = false) (v : Word) (s : State) : writeReg x v s = s := by
  cases x <;> first | contradiction | rfl

theorem readReg_construct {x : Reg} (hcmp : regClass x ≠ .cmp) (hx : x ∉ mayChange .init) (P : Params) (s : State) :
    readReg P x (construct s) = readReg P x s := by
  cases x
  case status | tickCount | elapsedS | elapsedFrac => contradiction
  case envState | envLevel | envTarget | envRemain => contradiction
  case lfoPhase | lfoHold | lfoRng | lfoValue => contradiction
  case mapNote | mapBend | mapTarget | mapSlewRemain | mapNoteCv | mapNoteFrac | mapPitchCv | mapVelCv => contradiction
  all_goals rfl

theorem readReg_setEnv_runTime {x : Reg} (hx : x ∉ mayChange .envAdv) (P : Params) (s : State) (phase : Phase) (gate : Bool)
    (level target remain : Word) :
    readReg P x (s.setEnv { s.env with phase, gate, level, target, remain }) = readReg P x s := by
  cases x
  case envState | envLevel | envTarget | envRemain => contradiction
  all_goals rfl

theorem readReg_lfoAdv {x : Reg} (hcmp : regClass x ≠ .cmp) (hx : x ∉ mayChange .lfoAdv) (P : Params) (s : State) :
    readReg P x (performed .lfoAdv s) = readReg P x s := by
  obtain ⟨phase, hold, rng, heq⟩ := lfoAdvance_eq params s.sys.tickPeriod s.lfo
  simp only [performed, heq]
  cases x
  case lfoPhase | lfoHold | lfoRng | lfoValue => contradiction
  all_goals rfl

theorem readReg_mapNoteon {x : Reg} {note vel : BitVec 8} (hcmp : regClass x ≠ .cmp)
    (hx : x ∉ [.mapNote, .mapTarget, .mapVelCv, .mapSlewRemain, .mapNoteCv, .mapNoteFrac]) (P : Params) (s : State) :
    readReg P x (performed (.mapNoteon note vel) s) = readReg P x s := by
  obtain ⟨note', target, velCv, slewRemain, acc, heq⟩ :=
    noteOn_eq params s.mem (eventNumber note) (eventNumber vel) s.map
  simp only [performed, heq]
  cases x
  case mapNote | mapTarget | mapSlewRemain | mapNoteCv | mapNoteFrac | mapPitchCv | mapVelCv => contradiction
  all_goals rfl

theorem readReg_wrcfg {x : Reg} {r : BitVec 6} {v : Word} (hcmp : regClass x ≠ .cmp) (hwin : regClass x ≠ .win)
    (hx : x ∉ mayChange (.wrcfg r v)) (P : Params) (s : State) :
    readReg P x (performed (.wrcfg r v) s) = readReg P x s := by
  cases hr : regOfNumber r with
  | none => simp only [performed, hr, Option.elim_none]
  | some y =>
    simp only [performed, hr, Option.elim_some]
    by_cases hxy : x = y
    · subst hxy
      have hclass : regWritable x = false := by
        unfold regWritable
        cases hc : regClass x <;> simp_all [mayChange, classWritable]
      rw [writeReg_of_not_writable hclass]
    · exact readReg_writeReg_other hxy hcmp hwin P v s

/-- A command that is performed changes no stored register outside its row of the table of R56. -/
theorem readReg_performed {i : Instr} {x : Reg} (hcmp : regClass x ≠ .cmp) (hwin : regClass x ≠ .win) (hx : x ∉ mayChange i)
    (P : Params) (s : State) : readReg P x (performed i s) = readReg P x s := by
  cases i with
  | init => exact readReg_construct hcmp hx P s
  | tick =>
    cases x
    case tickCount | elapsedS | elapsedFrac => contradiction
    all_goals rfl
  | envGate on =>
    obtain ⟨phase, gate, level, target, remain, heq⟩ := gate_eq on s.env
    simp only [performed, heq]
    exact readReg_setEnv_runTime hx P s ..
  | envAdv =>
    obtain ⟨phase, level, target, remain, heq⟩ := envelopeAdvance_eq params s.env
    simp only [performed, heq]
    exact readReg_setEnv_runTime hx P s ..
  | lfoSetf value => exact readReg_writeReg_other (x := .lfoFreq) (by simpa [mayChange] using hx) hcmp hwin P value s
  | lfoAdv => exact readReg_lfoAdv hcmp hx P s
  | lfoSync =>
    cases x
    case lfoPhase | lfoValue => contradiction
    all_goals rfl
  | mapNoteon note vel => exact readReg_mapNoteon hcmp hx P s
  | mapAdv =>
    cases x
    case mapSlewRemain | mapNoteCv | mapNoteFrac | mapPitchCv => contradiction
    all_goals rfl
  | mapBend bend =>
    change x ∉ [.mapBend] at hx
    cases x
    case mapBend | mapPitchCv => contradiction
    all_goals rfl
  | wrcfg r v => exact readReg_wrcfg hcmp hwin hx P s
  | mapNoteoff note => rfl
  | rdreg r => rfl

/-! ### The notes of R56 on the tables, the gate, the level and the waiting inputs -/

/-- Only a write through the window changes a table, and then the selected entry alone. -/
theorem performed_mem {i : Instr} {s : State} (h : (performed i s).mem ≠ s.mem) :
    ∃ v, i = .wrcfg 0x36#6 v ∧ performed i s = tabWrite v s := by
  cases i
  case wrcfg r v =>
    cases hr : regOfNumber r with
    | none => simp [performed, hr] at h
    | some x =>
      simp only [performed, hr, Option.elim_some] at h ⊢
      have hx : x = .tabData := by_contra fun hne => h (writeReg_mem hne v s)
      subst hx
      exact ⟨v, by rw [← regNumber_of_regOfNumber hr]; rfl, rfl⟩
  all_goals exact absurd rfl h

theorem memRead_tabWrite_other {s : State} {space : TableSel} {k : Nat}
    (h : space ≠ s.tab.sel ∨ k ≠ s.tab.idx.toNat) (v : Word) : memRead (tabWrite v s).mem space k = memRead s.mem space k :=
  memRead_memWrite_other s.mem h v

theorem writeReg_gate (x : Reg) (v : Word) (s : State) : (writeReg x v s).env.gate = s.env.gate := by cases x <;> rfl

theorem writeReg_inbox (x : Reg) (v : Word) (s : State) : (writeReg x v s).inbox = s.inbox := by cases x <;> rfl

/-- `ENV_STATE.GATE` has two writers. -/
theorem performed_gate {i : Instr} {s : State} (h : (performed i s).env.gate ≠ s.env.gate) :
    i = .init ∨ ∃ on, i = .envGate on := by
  cases i
  case init => exact .inl rfl
  case envGate on => exact .inr ⟨on, rfl⟩
  case envAdv =>
    obtain ⟨phase, level, target, remain, heq⟩ := envelopeAdvance_eq params s.env
    simp [performed, heq] at h
  case wrcfg r v =>
    cases hr : regOfNumber r <;> simp [performed, hr, writeReg_gate] at h
  all_goals exact absurd rfl h

/-- The one write of `ENV.GATE` to the level is the reset to 0 of a gate-on in Idle (41_envelope.md R112). -/
theorem gateOn_level {e : Envelope} (h : (gateOn e).level ≠ e.level) : e.phase = .idle ∧ (gateOn e).level = 0#32 := by
  unfold gateOn at h ⊢
  split at h
  · next hidle => simp_all [startAttack, enterSeg]
  all_goals exact absurd rfl h

theorem gate_level {on : Bool} {e : Envelope} (h : (if on then gateOn e else gateOff e).level ≠ e.level) :
    e.phase = .idle ∧ (if on then gateOn e else gateOff e).level = 0#32 := by
  cases on with
  | true => exact gateOn_level h
  | false =>
    obtain ⟨phase, gate, target, remain, heq⟩ := gateOff_eq e
    simp [heq] at h

theorem performed_inbox (i : Instr) (s : State) : (performed i s).inbox = s.inbox := by
  cases i
  case wrcfg r v => cases hr : regOfNumber r <;> simp [performed, hr, writeReg_inbox]
  all_goals rfl

/-- Settles O59, by the ways a command can end. -/
theorem writersOfEachRegister : Obligations.WritersOfEachRegister := by
  intro i s t h
  cases exec_endsInAnswer i s t h with
  | kept r =>
    exact ⟨fun P x _ _ hne => absurd (readReg_withResponse P x s _) hne, fun hne => absurd rfl hne,
      fun _ _ P x _ => readReg_withResponse P x s _, fun hne => absurd rfl hne, fun _ _ hne => absurd rfl hne, rfl⟩
  | performed =>
    refine ⟨fun P x hcmp hwin hne => ?_, fun hne => ?_, fun _ hresp => absurd rfl hresp, performed_gate, ?_,
      performed_inbox i s⟩
    · by_contra hx
      exact hne ((readReg_withResponse ..).trans (readReg_performed hcmp hwin hx P s))
    · obtain ⟨v, hi, heq⟩ := performed_mem hne
      refine ⟨v, hi, fun space k hother => ?_⟩
      change memRead (performed i s).mem space k = _
      rw [heq]
      exact memRead_tabWrite_other hother v
    · rintro on rfl hne
      exact gate_level hne
  | failedInit mask hi =>
    have hread (P : Params) {x : Reg} (hx : x ≠ .status) :
        readReg P x { failConstruction mask s with response := some ⟨.configurationError, mask.setWidth 32⟩ } =
          readReg P x s :=
      (readReg_withResponse ..).trans (readReg_failConstruction hx P mask s)
    subst hi
    refine ⟨fun P x _ _ hne => ?_, fun hne => absurd rfl hne, fun _ _ P x hx => hread P hx, fun hne => absurd rfl hne,
      fun _ _ hne => absurd rfl hne, rfl⟩
    by_contra hx
    exact hne (hread P (fun heq => hx (by simp [heq, mayChange])))

end Sys2Proof.Machine

/-! PROOFS of the statements of 20_memory.md: the tables (R60), the byte-wide transport (R65), the order of the unit advances
within a tick (R69), and the configuration in RUN mode (R71). -/

namespace Sys2Proof.Machine

/-! ### Canonical tables (20_memory.md R60) -/

theorem tableWfFrom_cons {low k : Nat} {v : Word} {rest : Table} :
    tableWfFrom low ((k, v) :: rest) = true ↔
      low ≤ k ∧ k < 128 ∧ v ≠ tableUnlisted ∧ tableWfFrom (k + 1) rest = true := by
  simp [tableWfFrom, and_assoc]

/-- A table that shows a listed value at `i` does not start above `i`. -/
theorem le_of_tableRead_ne {t : Table} {low i : Nat} (h : tableWfFrom low t = true)
    (hread : tableRead t i ≠ tableUnlisted) : low ≤ i := by
  by_contra hlt
  exact hread (tableRead_below h (by omega))

theorem tableRead_head (k : Nat) (v : Word) (rest : Table) : tableRead ((k, v) :: rest) k = v := if_pos rfl

/-- The reads of a canonical table give its rest back: below the rest's first index there is nothing. -/
theorem tableRead_rest {k : Nat} {v : Word} {rest : Table} (h : tableWfFrom (k + 1) rest = true) (i : Nat) :
    tableRead rest i = if i = k then tableUnlisted else tableRead ((k, v) :: rest) i := by
  split
  · next hik => exact tableRead_below h (by omega)
  · next hik => simp only [tableRead, if_neg hik]

/-- A canonical table with a listed entry shows it, so it reads otherwise than the empty table. -/
theorem exists_tableRead_cons_ne {low k : Nat} {v : Word} {rest : Table} (h : tableWfFrom low ((k, v) :: rest) = true) :
    ∃ i < 128, tableRead ((k, v) :: rest) i ≠ tableRead [] i := by
  obtain ⟨-, hk, hv, -⟩ := tableWfFrom_cons.mp h
  exact ⟨k, hk, by rwa [tableRead_head]⟩

/-- Of two canonical tables with the same entries, neither starts above the other. -/
theorem head_le_of_tableRead_eq {low low' k k' : Nat} {v v' : Word} {rest rest' : Table}
    (ht : tableWfFrom low ((k, v) :: rest) = true) (hu : tableWfFrom low' ((k', v') :: rest') = true)
    (hread : ∀ i < 128, tableRead ((k, v) :: rest) i = tableRead ((k', v') :: rest') i) : k' ≤ k := by
  obtain ⟨-, hk, hv, -⟩ := tableWfFrom_cons.mp ht
  obtain ⟨-, hu'⟩ := tableWfFrom_cons.mp hu
  refine le_of_tableRead_ne (tableWfFrom_cons.mpr ⟨le_refl k', hu'⟩) ?_
  rwa [← hread k hk, tableRead_head]

theorem eq_of_tableRead_eq {t u : Table} {low low' : Nat} (ht : tableWfFrom low t = true) (hu : tableWfFrom low' u = true)
    (hread : ∀ i < 128, tableRead t i = tableRead u i) : t = u := by
  induction t generalizing low low' u with
  | nil =>
    cases u with
    | nil => rfl
    | cons c rest =>
      obtain ⟨i, hi, hne⟩ := exists_tableRead_cons_ne hu
      exact absurd (hread i hi).symm hne
  | cons c rest ih =>
    cases u with
    | nil =>
      obtain ⟨i, hi, hne⟩ := exists_tableRead_cons_ne ht
      exact absurd (hread i hi) hne
    | cons c' rest' =>
      obtain ⟨k, v⟩ := c
      obtain ⟨k', v'⟩ := c'
      obtain ⟨-, hk, -, hrest⟩ := tableWfFrom_cons.mp ht
      obtain ⟨-, -, -, hrest'⟩ := tableWfFrom_cons.mp hu
      have hle := head_le_of_tableRead_eq ht hu hread
      have hge := head_le_of_tableRead_eq hu ht fun i hi => (hread i hi).symm
      obtain rfl : k = k' := le_antisymm hge hle
      obtain rfl : v = v' := by simpa only [tableRead_head] using hread k hk
      rw [ih hrest hrest' fun i hi => by rw [tableRead_rest (v := v) hrest, tableRead_rest (v := v) hrest', hread i hi]]

/-- Settles O48: by induction, the first listed index of each table is the least one that reads as listed. -/
theorem equalEntriesAreEqualTables : Obligations.EqualEntriesAreEqualTables := fun _ _ ht hu hread =>
  eq_of_tableRead_eq ht hu hread

/-! ### The byte-wide transport (20_memory.md R65) -/

/-- The five bytes of a command word are its base 256 digits. -/
theorem commandWord_byteSum (w : CommandWord) :
    w.toNat = (w.extractLsb' 32 8).toNat * 2 ^ 32 + (w.extractLsb' 24 8).toNat * 2 ^ 24 + (w.extractLsb' 16 8).toNat * 2 ^ 16 +
      (w.extractLsb' 8 8).toNat * 2 ^ 8 + (w.extractLsb' 0 8).toNat := by
  have hlt := w.isLt
  simp only [BitVec.extractLsb'_toNat, Nat.shiftRight_eq_div_pow]
  omega

/-- The same of a response, whose first byte has four zero bits above the status code. -/
theorem responseWord_byteSum (w : ResponseWord) :
    w.toNat = (0#4 ++ w.extractLsb' 32 4 : Byte).toNat * 2 ^ 32 + (w.extractLsb' 24 8).toNat * 2 ^ 24 +
      (w.extractLsb' 16 8).toNat * 2 ^ 16 + (w.extractLsb' 8 8).toNat * 2 ^ 8 + (w.extractLsb' 0 8).toNat := by
  have hlt := w.isLt
  simp only [toNat_join, BitVec.toNat_ofNat, BitVec.extractLsb'_toNat, Nat.shiftRight_eq_div_pow]
  omega

/-- Five bytes joined are the word whose digits they are. -/
theorem join_commandBytes (w : CommandWord) :
    w.extractLsb' 32 8 ++ w.extractLsb' 24 8 ++ w.extractLsb' 16 8 ++ w.extractLsb' 8 8 ++ w.extractLsb' 0 8 = w := by
  apply BitVec.eq_of_toNat_eq
  have hsum := commandWord_byteSum w
  simp only [toNat_join]
  omega

theorem commandOfBytes_commandBytes (w : CommandWord) (rest : List Byte) :
    commandOfBytes (commandBytes w ++ rest) = some (w, rest) :=
  congrArg (fun v => some (v, rest)) (join_commandBytes w)

theorem responseWord_toNat (r : Response) : (responseWord r).toNat = (statusCode r.status).toNat * 2 ^ 32 + r.data.toNat :=
  toNat_join _ _

/-- Settles O11: a word is the sum of its bytes, and a response its status code above its data. -/
theorem commandTransportRoundTrip : Obligations.CommandTransportRoundTrip := by
  refine ⟨commandOfBytes_commandBytes, fun w => ⟨_, _, _, _, _, rfl, rfl, commandWord_byteSum w⟩, fun r => ⟨?_, ?_⟩⟩
  · rw [responseWord_toNat]
    cases r.status <;> rfl
  · exact ⟨_, _, _, _, _, rfl, responseWord_byteSum (responseWord r)⟩

/-! ### The order of the unit advances within a tick (20_memory.md R69) -/

/-- The commands that advance one unit by one tick. -/
abbrev unitAdvances : List Instr := [.tick, .envAdv, .lfoAdv, .mapAdv]

theorem cases_of_mem_unitAdvances {i : Instr} (hi : i ∈ unitAdvances) :
    i = .tick ∨ i = .envAdv ∨ i = .lfoAdv ∨ i = .mapAdv := by simpa using hi

/-- An operational command outside RUN mode is answered `MODE_ERROR` (60_exceptions.md R196). -/
theorem exec_operational_of_ne_run {i : Instr} (hi : operational i = true) {s : State} (hm : s.sys.mode ≠ .run) :
    exec i s = .next (answered s .modeError ((modeCode s.sys.mode).setWidth 32)) := by
  cases i
  case init | wrcfg | rdreg => contradiction
  all_goals exact inMode_of_ne hm _

theorem operational_of_mem_unitAdvances {i : Instr} (hi : i ∈ unitAdvances) : operational i = true := by
  obtain rfl | rfl | rfl | rfl := cases_of_mem_unitAdvances hi
  all_goals rfl

/-- An advance in RUN mode is always performed. -/
theorem exec_unitAdvance_of_run {i : Instr} (hi : i ∈ unitAdvances) {s : State} (hm : s.sys.mode = .run) :
    exec i s = .next (answered (performed i s) .ok 0#32) := by
  obtain rfl | rfl | rfl | rfl := cases_of_mem_unitAdvances hi
  all_goals exact inMode_of_eq hm _

theorem performed_unitAdvance_mode {i : Instr} (hi : i ∈ unitAdvances) (s : State) :
    (performed i s).sys.mode = s.sys.mode := by
  obtain rfl | rfl | rfl | rfl := cases_of_mem_unitAdvances hi
  all_goals rfl

/-- An advance does not look at the response, and leaves it alone. -/
theorem performed_unitAdvance_answered {i : Instr} (hi : i ∈ unitAdvances) (s : State) (status : Status) (data : Word) :
    performed i (answered s status data) = answered (performed i s) status data := by
  obtain rfl | rfl | rfl | rfl := cases_of_mem_unitAdvances hi
  all_goals rfl

/-- An advance writes its own unit from its own unit; the LFO also looks at the tick period, which `TICK` leaves alone. -/
theorem performed_unitAdvances_comm {i j : Instr} (hi : i ∈ unitAdvances) (hj : j ∈ unitAdvances) (s : State) :
    performed j (performed i s) = performed i (performed j s) := by
  obtain rfl | rfl | rfl | rfl := cases_of_mem_unitAdvances hi
  all_goals
    obtain rfl | rfl | rfl | rfl := cases_of_mem_unitAdvances hj
    all_goals rfl

theorem runCommands_pair {i j : Instr} {s t u : State} (hi : exec i s = .next t) (hj : exec j t = .next u) :
    runCommands [i, j] s = .next u := by
  simp only [runCommands, hi, hj]

/-- Two advances in RUN mode: both are performed, and the second response stands. -/
theorem runCommands_unitAdvances_of_run {i j : Instr} (hi : i ∈ unitAdvances) (hj : j ∈ unitAdvances) {s : State}
    (hm : s.sys.mode = .run) : runCommands [i, j] s = .next (answered (performed j (performed i s)) .ok 0#32) := by
  have hmode : (answered (performed i s) .ok 0#32).sys.mode = .run := (performed_unitAdvance_mode hi s).trans hm
  refine runCommands_pair (exec_unitAdvance_of_run hi hm) ?_
  rw [exec_unitAdvance_of_run hj hmode, performed_unitAdvance_answered hj]
  rfl

theorem runCommands_operational_of_ne_run {i j : Instr} (hi : operational i = true) (hj : operational j = true) {s : State}
    (hm : s.sys.mode ≠ .run) :
    runCommands [i, j] s = .next (answered s .modeError ((modeCode s.sys.mode).setWidth 32)) :=
  runCommands_pair (exec_operational_of_ne_run hi hm) (exec_operational_of_ne_run hj hm)

/-- Settles O58: in RUN mode by the disjoint units the advances write, in any other mode by their equal refusals. -/
theorem unitAdvancesCommute : Obligations.UnitAdvancesCommute := by
  intro s i hi j hj
  by_cases hm : s.sys.mode = .run
  · refine ⟨_, runCommands_unitAdvances_of_run hi hj hm, ?_⟩
    rw [runCommands_unitAdvances_of_run hj hi hm, performed_unitAdvances_comm hi hj]
  · have hi' := operational_of_mem_unitAdvances hi
    have hj' := operational_of_mem_unitAdvances hj
    exact ⟨_, runCommands_operational_of_ne_run hi' hj' hm, runCommands_operational_of_ne_run hj' hi' hm⟩

/-! ### The configuration in RUN mode (20_memory.md R71) -/

/-- Outside CONFIG mode a `WRCFG` writes at most the table pointer (44_register_access.md R176). -/
theorem wrcfgReg_of_ne_config {s t : State} (hm : s.sys.mode ≠ .config) {x : Reg} {v : Word}
    (h : wrcfgReg x v s = .next t) : ∃ tab response, t = { s with tab, response } := by
  unfold wrcfgReg at h
  split at h
  · exact ⟨_, _, (Host.Outcome.next.inj h).symm⟩
  next hx =>
  obtain rfl : x = .tabAddr := by_contra fun hne => hx ⟨hne, hm⟩
  split at h
  all_goals exact ⟨_, _, (Host.Outcome.next.inj h).symm⟩

theorem execWrcfg_of_ne_config {s t : State} (hm : s.sys.mode ≠ .config) {r : BitVec 6} {v : Word}
    (h : execWrcfg r v s = .next t) : ∃ tab response, t = { s with tab, response } := by
  unfold execWrcfg at h
  split at h
  · exact ⟨_, _, (Host.Outcome.next.inj h).symm⟩
  split at h
  · exact ⟨_, _, (Host.Outcome.next.inj h).symm⟩
  split at h
  · exact ⟨_, _, (Host.Outcome.next.inj h).symm⟩
  · exact wrcfgReg_of_ne_config hm h

/-- A configuration register shows neither the table pointer nor the response. -/
theorem readReg_withPointer {x : Reg} (hx : regClass x = .cfg) (P : Params) (s : State) (tab : TabAddr)
    (response : Option Response) : readReg P x { s with tab, response } = readReg P x s := by
  cases x
  case tabAddr | tabData => contradiction
  all_goals rfl

/-- A configuration register has one writer, `WRCFG`; the frequency has two (10_state.md R21). -/
theorem writer_of_config {x : Reg} {i : Instr} (hx : regClass x = .cfg) (hmay : x ∈ mayChange i) :
    ∃ r v, i = .wrcfg r v := by
  by_contra hi
  have hclass : ∀ y ∈ mayChange i, regClass y ≠ .cfg := by
    cases i
    case wrcfg r v => exact absurd ⟨r, v, rfl⟩ hi
    all_goals simp [mayChange, regClass]
  exact hclass x hmay hx

theorem writer_of_lfoFreq {i : Instr} (hmay : Reg.lfoFreq ∈ mayChange i) : (∃ r v, i = .wrcfg r v) ∨ ∃ v, i = .lfoSetf v := by
  cases i
  case wrcfg r v => exact .inl ⟨r, v, rfl⟩
  case lfoSetf v => exact .inr ⟨v, rfl⟩
  all_goals simp [mayChange] at hmay

theorem execLfoSetf_freq {s t : State} (hm : s.sys.mode = .run) {v : Word} (h : execLfoSetf v s = .next t) :
    t.lfo.freq = v := by
  rw [execLfoSetf, inMode_of_eq hm] at h
  obtain rfl := Host.Outcome.next.inj h
  rfl

/-- Settles O56: the writers of these registers are `WRCFG`, which RUN mode confines to the table pointer, and for the
frequency `LFO.SETF`. -/
theorem configurationIsFrozenInRun : Obligations.ConfigurationIsFrozenInRun := by
  intro i s t hm h
  obtain ⟨hreg, hmem, -⟩ := writersOfEachRegister i s t h
  have hwrcfg {r : BitVec 6} {v : Word} (hi : i = .wrcfg r v) : ∃ tab response, t = { s with tab, response } :=
    execWrcfg_of_ne_config (by simp [hm]) (hi ▸ h : exec (.wrcfg r v) s = .next t)
  refine ⟨?_, fun P x hx => ?_, ?_⟩
  · by_contra hne
    obtain ⟨v, hi, -⟩ := hmem hne
    obtain ⟨tab, response, rfl⟩ := hwrcfg hi
    exact hne rfl
  · have hclass : regClass x = .cfg := by
      revert x
      decide
    by_contra hne
    obtain ⟨r, v, hi⟩ := writer_of_config hclass (hreg P x (by simp [hclass]) (by simp [hclass]) hne)
    obtain ⟨tab, response, rfl⟩ := hwrcfg hi
    exact hne (readReg_withPointer hclass P s tab response)
  · refine or_iff_not_imp_left.mpr fun hne => ?_
    obtain ⟨r, v, hi⟩ | ⟨v, rfl⟩ := writer_of_lfoFreq (hreg params .lfoFreq (by decide) (by decide) hne)
    · obtain ⟨tab, response, rfl⟩ := hwrcfg hi
      exact absurd rfl hne
    · rw [execLfoSetf_freq hm h]

end Sys2Proof.Machine

/-! PROOFS of the statements of 30_encoding.md: the operand formats (R83, R85), the opcode map read both ways (R84), the causes
of ILLEGAL a word can have (R86, R87), the example words (R88), and that every word is answered (R81). -/

namespace Sys2Proof.Machine

/-! ### The must-be-zero bits of a format (30_encoding.md R83) -/

/-- The mask of a word's high bits shows its high part. -/
theorem and_highMask_eq_iff {n m : Nat} (w : BitVec (n + m)) (a : BitVec n) :
    w &&& (BitVec.allOnes n ++ 0#m) = a ++ 0#m ↔ w.extractLsb' m n = a := by
  conv_lhs => rw [← extractLsb'_append_self w, BitVec.and_append, BitVec.and_allOnes, BitVec.and_zero]
  exact BitVec.append_left_inj _

/-- The high part of a word is zero if the low part can hold the word's number. -/
theorem extractLsb'_high_eq_zero_iff {n m : Nat} (w : BitVec (n + m)) : w.extractLsb' m n = 0#n ↔ w.toNat < 2 ^ m := by
  rw [← BitVec.toNat_inj, BitVec.extractLsb'_toNat, BitVec.toNat_ofNat, Nat.zero_mod, Nat.shiftRight_eq_div_pow,
    Nat.mod_eq_of_lt (Nat.div_lt_of_lt_mul (by simpa [pow_add, mul_comm] using w.isLt)), Nat.div_eq_zero_iff]
  simp

/-- A word whose high part is known is that part joined to its low part. -/
theorem append_low_of_high {n m : Nat} {w : BitVec (n + m)} {a : BitVec n} (h : w.extractLsb' m n = a) :
    a ++ w.extractLsb' 0 m = w := h ▸ extractLsb'_append_self w

theorem formatN_iff (op : Word) : formatN op = true ↔ op = 0#32 := decide_eq_true_iff

theorem formatB_iff (op : Word) : formatB op = true ↔ op.toNat < 2 :=
  decide_eq_true_iff.trans (extractLsb'_high_eq_zero_iff (n := 31) (m := 1) op)

theorem formatK_iff (op : Word) : formatK op = true ↔ op.toNat < 0x10000 :=
  decide_eq_true_iff.trans (extractLsb'_high_eq_zero_iff (n := 16) (m := 16) op)

theorem formatK1_iff (op : Word) : formatK1 op = true ↔ op.toNat < 0x100 :=
  decide_eq_true_iff.trans (extractLsb'_high_eq_zero_iff (n := 24) (m := 8) op)

/-! The masks of the opcode table select the must-be-zero bits. -/

theorem formatN_of_mask {op : Word} (h : op &&& 0xFFFFFFFF#32 = 0#32) : formatN op = true :=
  (formatN_iff op).mpr (BitVec.and_allOnes.symm.trans h)

theorem formatB_of_mask {op : Word} (h : op &&& 0xFFFFFFFE#32 = 0#32) : formatB op = true :=
  decide_eq_true ((and_highMask_eq_iff (n := 31) (m := 1) op 0#31).mp h)

theorem formatK_of_mask {op : Word} (h : op &&& 0xFFFF0000#32 = 0#32) : formatK op = true :=
  decide_eq_true ((and_highMask_eq_iff (n := 16) (m := 16) op 0#16).mp h)

theorem formatK1_of_mask {op : Word} (h : op &&& 0xFFFFFF00#32 = 0#32) : formatK1 op = true :=
  decide_eq_true ((and_highMask_eq_iff (n := 24) (m := 8) op 0#24).mp h)

/-! ### An operand and its fields (30_encoding.md R83, R85) -/

theorem onField_layout (on : Bool) : onField (0#31 ++ BitVec.ofBool on) = on := by cases on <;> rfl

theorem formatB_layout (on : Bool) : formatB (0#31 ++ BitVec.ofBool on) = true := by cases on <;> rfl

theorem formatB_operand {op : Word} (h : formatB op = true) : 0#31 ++ BitVec.ofBool (onField op) = op := by
  have hbit : BitVec.ofBool (onField op) = op.extractLsb' 0 1 := by
    apply BitVec.eq_of_getLsbD_eq
    intro i hi
    simp [onField, Nat.lt_one_iff.mp hi]
  rw [hbit]
  exact append_low_of_high (n := 31) (m := 1) (of_decide_eq_true h)

theorem formatK_operand {op : Word} (h : formatK op = true) : 0#16 ++ velField op ++ noteField op = op := by
  have hlt := (formatK_iff op).mp h
  apply BitVec.eq_of_toNat_eq
  rw [toNat_formatK, velField, noteField, BitVec.extractLsb'_toNat, BitVec.extractLsb'_toNat, Nat.shiftRight_eq_div_pow]
  omega

theorem formatP_operand {op : Word} (h : formatK op = true) : 0#16 ++ bendField op = op :=
  append_low_of_high (n := 16) (m := 16) (of_decide_eq_true h)

theorem formatK1_operand {op : Word} (h : formatK1 op = true) : 0#24 ++ noteField op = op :=
  append_low_of_high (n := 24) (m := 8) (of_decide_eq_true h)

/-- An opcode of a class with a register number is that class joined to that number (30_encoding.md R82). -/
theorem class_append_registerField {opc : BitVec 8} {c : BitVec 2} (h : classField opc = c) : c ++ registerField opc = opc :=
  append_low_of_high (n := 2) (m := 6) h

/-! ### The rows of the decoder (30_encoding.md R84) -/

theorem withFormat_of_fits {fits : Bool} (h : fits = true) (i : Instr) : withFormat fits i = .ok i := if_pos h

theorem withFormat_eq_ok {fits : Bool} {i j : Instr} (h : withFormat fits i = .ok j) : fits = true ∧ i = j := by
  cases fits with
  | false => cases h
  | true => exact ⟨rfl, Except.ok.inj h⟩

theorem withFormat_eq_mustBeZero_iff (fits : Bool) (i : Instr) :
    withFormat fits i = .error .mustBeZero ↔ ¬ fits = true := by cases fits <;> simp [withFormat]

theorem withFormat_ne_reservedOpcode (fits : Bool) (i : Instr) : withFormat fits i ≠ .error .reservedOpcode := by
  cases fits <;> simp [withFormat]

theorem decode_init_word (op : Word) : decode (0x00#8 ++ op) = withFormat (formatN op) .init := decode_append _ op

theorem decode_tick_word (op : Word) : decode (0x01#8 ++ op) = withFormat (formatN op) .tick := decode_append _ op

theorem decode_envGate_word (op : Word) : decode (0x10#8 ++ op) = withFormat (formatB op) (.envGate (onField op)) :=
  decode_append _ op

theorem decode_envAdv_word (op : Word) : decode (0x11#8 ++ op) = withFormat (formatN op) .envAdv := decode_append _ op

theorem decode_lfoSetf_word (op : Word) : decode (0x20#8 ++ op) = .ok (.lfoSetf op) := decode_append _ op

theorem decode_lfoAdv_word (op : Word) : decode (0x21#8 ++ op) = withFormat (formatN op) .lfoAdv := decode_append _ op

theorem decode_lfoSync_word (op : Word) : decode (0x22#8 ++ op) = withFormat (formatN op) .lfoSync := decode_append _ op

theorem decode_mapNoteon_word (op : Word) :
    decode (0x30#8 ++ op) = withFormat (formatK op) (.mapNoteon (noteField op) (velField op)) := decode_append _ op

theorem decode_mapAdv_word (op : Word) : decode (0x31#8 ++ op) = withFormat (formatN op) .mapAdv := decode_append _ op

theorem decode_mapNoteoff_word (op : Word) :
    decode (0x32#8 ++ op) = withFormat (formatK1 op) (.mapNoteoff (noteField op)) := decode_append _ op

theorem decode_mapBend_word (op : Word) : decode (0x33#8 ++ op) = withFormat (formatK op) (.mapBend (bendField op)) :=
  decode_append _ op

/-- The opcodes of the class 0 rows. -/
abbrev operationOpcodes : List (BitVec 8) :=
  [0x00#8, 0x01#8, 0x10#8, 0x11#8, 0x20#8, 0x21#8, 0x22#8, 0x30#8, 0x31#8, 0x32#8, 0x33#8]

theorem cases_of_mem_operationOpcodes {opc : BitVec 8} (h : opc ∈ operationOpcodes) :
    opc = 0x00#8 ∨ opc = 0x01#8 ∨ opc = 0x10#8 ∨ opc = 0x11#8 ∨ opc = 0x20#8 ∨ opc = 0x21#8 ∨ opc = 0x22#8 ∨
      opc = 0x30#8 ∨ opc = 0x31#8 ∨ opc = 0x32#8 ∨ opc = 0x33#8 := by simpa using h

theorem decodeOperation_of_not_mem {opc : BitVec 8} (h : opc ∉ operationOpcodes) (op : Word) :
    decodeOperation opc op = .error .reservedOpcode := by
  simp only [List.mem_cons, List.not_mem_nil, or_false, not_or] at h
  simp only [decodeOperation, h, if_false]

/-! ### Decoding an encoding (30_encoding.md R84) -/

/-- Settles O1: each format's fields are read back from where the encoder put them. -/
theorem decodeOfEncodeIsTheCommand : Obligations.DecodeOfEncodeIsTheCommand := by
  intro i
  cases i with
  | init => exact decode_init_word 0#32
  | tick => exact decode_tick_word 0#32
  | envGate on =>
    refine (decode_envGate_word _).trans ?_
    rw [withFormat_of_fits (formatB_layout on), onField_layout]
  | envAdv => exact decode_envAdv_word 0#32
  | lfoSetf value => exact decode_lfoSetf_word value
  | lfoAdv => exact decode_lfoAdv_word 0#32
  | lfoSync => exact decode_lfoSync_word 0#32
  | mapNoteon note vel =>
    refine (decode_mapNoteon_word _).trans ?_
    rw [withFormat_of_fits (formatK_layout vel note), noteField_layout, velField_layout]
  | mapAdv => exact decode_mapAdv_word 0#32
  | mapNoteoff note =>
    refine (decode_mapNoteoff_word _).trans ?_
    rw [withFormat_of_fits (formatK1_high_zero note), noteField_layout_K1]
  | mapBend bend =>
    refine (decode_mapBend_word _).trans ?_
    rw [withFormat_of_fits (formatK_high_zero bend), bendField_layout]
  | wrcfg r value => exact decode_write_word r value
  | rdreg r => exact decode_read_word r 0#32

/-- Settles O3: each line of R88 is the encoding of its command. -/
theorem specExampleWordsDecode : Obligations.SpecExampleWordsDecode :=
  ⟨decodeOfEncodeIsTheCommand (.envGate true), decodeOfEncodeIsTheCommand (.mapNoteon 72#8 100#8),
    decodeOfEncodeIsTheCommand (.mapBend 0xE000#16), by decide, decodeOfEncodeIsTheCommand (.wrcfg 0x11#6 10#32),
    decodeOfEncodeIsTheCommand (.rdreg 0x19#6)⟩

/-! ### Encoding what was decoded (30_encoding.md R84) -/

theorem commandWord_of_formatN {op : Word} (h : formatN op = true) (opc : BitVec 8) :
    commandWord opc 0#32 = commandWord opc op := by rw [(formatN_iff op).mp h]

theorem encode_envGate_fields {op : Word} (h : formatB op = true) :
    encode (.envGate (onField op)) = commandWord 0x10#8 op := congrArg (commandWord 0x10#8) (formatB_operand h)

theorem encode_mapNoteon_fields {op : Word} (h : formatK op = true) :
    encode (.mapNoteon (noteField op) (velField op)) = commandWord 0x30#8 op :=
  congrArg (commandWord 0x30#8) (formatK_operand h)

theorem encode_mapNoteoff_fields {op : Word} (h : formatK1 op = true) :
    encode (.mapNoteoff (noteField op)) = commandWord 0x32#8 op := congrArg (commandWord 0x32#8) (formatK1_operand h)

theorem encode_mapBend_fields {op : Word} (h : formatK op = true) :
    encode (.mapBend (bendField op)) = commandWord 0x33#8 op := congrArg (commandWord 0x33#8) (formatP_operand h)

theorem encode_wrcfg_fields {opc : BitVec 8} (h : classField opc = 1#2) (op : Word) :
    encode (.wrcfg (registerField opc) op) = commandWord opc op := by rw [encode, class_append_registerField h]

theorem encode_rdreg_fields {opc : BitVec 8} (h : classField opc = 2#2) :
    encode (.rdreg (registerField opc)) = commandWord opc 0#32 := by rw [encode, class_append_registerField h]

/-- What a format check accepts encodes as its row does. -/
theorem encode_of_withFormat {fits : Bool} {i j : Instr} {w : CommandWord} (h : withFormat fits i = .ok j)
    (hrow : fits = true → encode i = w) : encode j = w := by
  obtain ⟨hfits, rfl⟩ := withFormat_eq_ok h
  exact hrow hfits

/-- A row without operand accepts the operand 0 alone. -/
theorem encode_of_withFormatN {opc : BitVec 8} {op : Word} {i j : Instr} (h : withFormat (formatN op) i = .ok j)
    (hi : encode i = commandWord opc 0#32) : encode j = commandWord opc op :=
  encode_of_withFormat h fun hN => hi.trans (commandWord_of_formatN hN opc)

theorem encode_of_decodeOperation {opc : BitVec 8} {op : Word} {i : Instr} (h : decodeOperation opc op = .ok i) :
    encode i = commandWord opc op := by
  have hmem : opc ∈ operationOpcodes := by
    by_contra hmem
    rw [decodeOperation_of_not_mem hmem] at h
    cases h
  obtain rfl | rfl | rfl | rfl | rfl | rfl | rfl | rfl | rfl | rfl | rfl := cases_of_mem_operationOpcodes hmem
  · exact encode_of_withFormatN (i := .init) h rfl
  · exact encode_of_withFormatN (i := .tick) h rfl
  · exact encode_of_withFormat h encode_envGate_fields
  · exact encode_of_withFormatN (i := .envAdv) h rfl
  · obtain rfl := Except.ok.inj h
    rfl
  · exact encode_of_withFormatN (i := .lfoAdv) h rfl
  · exact encode_of_withFormatN (i := .lfoSync) h rfl
  · exact encode_of_withFormat h encode_mapNoteon_fields
  · exact encode_of_withFormatN (i := .mapAdv) h rfl
  · exact encode_of_withFormat h encode_mapNoteoff_fields
  · exact encode_of_withFormat h encode_mapBend_fields

theorem decodeRead_eq_ok {r : BitVec 6} {op : Word} {i : Instr} (h : decodeRead r op = .ok i) : op = 0#32 ∧ i = .rdreg r := by
  unfold decodeRead at h
  split_ifs at h with hop
  exact ⟨hop, (Except.ok.inj h).symm⟩

/-- The decoder drops no bit of a word it accepts. -/
theorem encode_of_decode {w : CommandWord} {i : Instr} (h : decode w = .ok i) : encode i = w := by
  rw [← opcodeField_append_opField w] at h ⊢
  rw [decode_append] at h
  split_ifs at h with h0 h1 h2
  · exact encode_of_decodeOperation h
  · obtain rfl := Except.ok.inj h
    exact encode_wrcfg_fields h1 _
  · obtain ⟨hop, rfl⟩ := decodeRead_eq_ok h
    rw [hop]
    exact encode_rdreg_fields h2

/-! ### The opcode table (30_encoding.md R84) -/

/-- Every encoding lies in its own row. -/
theorem encode_mem_opcodeRow (i : Instr) : encode i &&& (opcodeRow i).2 = (opcodeRow i).1 := by
  cases i with
  | init => exact Laws.EncodingInRow.init
  | tick => exact Laws.EncodingInRow.tick
  | envGate on => exact Laws.EncodingInRow.envGate on
  | envAdv => exact Laws.EncodingInRow.envAdv
  | lfoSetf value => exact Laws.EncodingInRow.lfoSetf value
  | lfoAdv => exact Laws.EncodingInRow.lfoAdv
  | lfoSync => exact Laws.EncodingInRow.lfoSync
  | mapNoteon note vel => exact Laws.EncodingInRow.mapNoteon note vel
  | mapAdv => exact Laws.EncodingInRow.mapAdv
  | mapNoteoff note => exact Laws.EncodingInRow.mapNoteoff note
  | mapBend bend => exact Laws.EncodingInRow.mapBend bend
  | wrcfg r value => exact Laws.EncodingInRow.wrcfg r value
  | rdreg r => exact Laws.EncodingInRow.rdreg r

/-- A match under a mask is a match of the opcode and a match of the operand. -/
theorem commandWord_and_eq {opc m a : BitVec 8} {op n b : Word}
    (h : commandWord opc op &&& commandWord m n = commandWord a b) : opc &&& m = a ∧ op &&& n = b := by
  rw [Laws.commandWord_and] at h
  exact ⟨by simpa [commandWord] using congrArg opcodeField h, by simpa [commandWord] using congrArg opField h⟩

/-- A row of class 0 fixes the whole opcode. -/
theorem opcode_eq_of_row {opc a : BitVec 8} {op n : Word}
    (h : commandWord opc op &&& commandWord 0xFF#8 n = commandWord a 0#32) : opc = a ∧ op &&& n = 0#32 := by
  obtain ⟨hopc, hop⟩ := commandWord_and_eq h
  exact ⟨BitVec.and_allOnes.symm.trans hopc, hop⟩

/-- A row of class 1 or class 2 fixes the class. -/
theorem classField_eq_of_row {opc : BitVec 8} {op n : Word} {c : BitVec 2}
    (h : commandWord opc op &&& commandWord 0xC0#8 n = commandWord (c ++ 0#6) 0#32) :
    classField opc = c ∧ op &&& n = 0#32 := by
  obtain ⟨hopc, hop⟩ := commandWord_and_eq h
  exact ⟨(and_highMask_eq_iff (n := 2) (m := 6) opc c).mp hopc, hop⟩

/-- A row without operand holds one word. -/
theorem encode_of_formatN_row {opc a : BitVec 8} {op : Word} {i : Instr}
    (h : commandWord opc op &&& commandWord 0xFF#8 0xFFFFFFFF#32 = commandWord a 0#32)
    (hi : encode i = commandWord a 0#32) : encode i = commandWord opc op := by
  obtain ⟨rfl, hop⟩ := opcode_eq_of_row h
  exact hi.trans (commandWord_of_formatN (formatN_of_mask hop) opc)

/-- A word that lies in a row is the encoding of a command of that row. -/
theorem exists_encode_of_mem_row {opc : BitVec 8} {op : Word} {i : Instr}
    (h : commandWord opc op &&& (opcodeRow i).2 = (opcodeRow i).1) :
    ∃ j, encode j = commandWord opc op ∧ opcodeRow j = opcodeRow i := by
  cases i with
  | init => exact ⟨.init, encode_of_formatN_row (a := 0x00#8) h rfl, rfl⟩
  | tick => exact ⟨.tick, encode_of_formatN_row (a := 0x01#8) h rfl, rfl⟩
  | envGate on =>
    obtain ⟨rfl, hop⟩ := opcode_eq_of_row (a := 0x10#8) (n := 0xFFFFFFFE#32) h
    exact ⟨_, encode_envGate_fields (formatB_of_mask hop), rfl⟩
  | envAdv => exact ⟨.envAdv, encode_of_formatN_row (a := 0x11#8) h rfl, rfl⟩
  | lfoSetf value =>
    obtain ⟨rfl, -⟩ := opcode_eq_of_row (a := 0x20#8) (n := 0#32) h
    exact ⟨.lfoSetf op, rfl, rfl⟩
  | lfoAdv => exact ⟨.lfoAdv, encode_of_formatN_row (a := 0x21#8) h rfl, rfl⟩
  | lfoSync => exact ⟨.lfoSync, encode_of_formatN_row (a := 0x22#8) h rfl, rfl⟩
  | mapNoteon note vel =>
    obtain ⟨rfl, hop⟩ := opcode_eq_of_row (a := 0x30#8) (n := 0xFFFF0000#32) h
    exact ⟨_, encode_mapNoteon_fields (formatK_of_mask hop), rfl⟩
  | mapAdv => exact ⟨.mapAdv, encode_of_formatN_row (a := 0x31#8) h rfl, rfl⟩
  | mapNoteoff note =>
    obtain ⟨rfl, hop⟩ := opcode_eq_of_row (a := 0x32#8) (n := 0xFFFFFF00#32) h
    exact ⟨_, encode_mapNoteoff_fields (formatK1_of_mask hop), rfl⟩
  | mapBend bend =>
    obtain ⟨rfl, hop⟩ := opcode_eq_of_row (a := 0x33#8) (n := 0xFFFF0000#32) h
    exact ⟨_, encode_mapBend_fields (formatK_of_mask hop), rfl⟩
  | wrcfg r value =>
    obtain ⟨hclass, -⟩ := classField_eq_of_row (c := 1#2) (n := 0#32) h
    exact ⟨_, encode_wrcfg_fields hclass op, rfl⟩
  | rdreg r =>
    obtain ⟨hclass, hop⟩ := classField_eq_of_row (c := 2#2) (n := 0xFFFFFFFF#32) h
    exact ⟨_, (encode_rdreg_fields hclass).trans (commandWord_of_formatN (formatN_of_mask hop) opc), rfl⟩

/-- Settles O2: an accepted word is an encoding, which lies in its row, and a word in a row is an encoding, which decodes. -/
theorem decodeFollowsTheOpcodeTable : Obligations.DecodeFollowsTheOpcodeTable := by
  refine ⟨fun w i h => ?_, fun w i h => ?_⟩
  · obtain rfl := encode_of_decode h
    exact ⟨rfl, encode_mem_opcodeRow i⟩
  · rw [← opcodeField_append_opField w] at h ⊢
    obtain ⟨j, hj, hrow⟩ := exists_encode_of_mem_row h
    exact ⟨j, (congrArg decode hj).symm.trans (decodeOfEncodeIsTheCommand j), hrow⟩

/-! ### The causes of ILLEGAL a word can have (30_encoding.md R86, R87) -/

theorem decodeOperation_eq_reservedOpcode_iff (opc : BitVec 8) (op : Word) :
    decodeOperation opc op = .error .reservedOpcode ↔ opc ∉ operationOpcodes := by
  refine ⟨fun h hmem => ?_, fun hmem => decodeOperation_of_not_mem hmem op⟩
  obtain rfl | rfl | rfl | rfl | rfl | rfl | rfl | rfl | rfl | rfl | rfl := cases_of_mem_operationOpcodes hmem
  all_goals simp [decodeOperation, withFormat_ne_reservedOpcode] at h

theorem decodeRead_ne_reservedOpcode (r : BitVec 6) (op : Word) : decodeRead r op ≠ .error .reservedOpcode := by
  unfold decodeRead
  split_ifs <;> simp

/-- An opcode is reserved in class 3, and in class 0 outside the rows. -/
theorem decode_eq_reservedOpcode_iff (opc : BitVec 8) (op : Word) :
    decode (opc ++ op) = .error .reservedOpcode ↔
      classField opc = 3#2 ∨ (classField opc = 0#2 ∧ opc ∉ operationOpcodes) := by
  rw [decode_append]
  split_ifs with h0 h1 h2
  · simp [decodeOperation_eq_reservedOpcode_iff, h0]
  · simp [h1]
  · simp [decodeRead_ne_reservedOpcode, h2]
  · exact iff_of_true rfl (.inl (by bv_omega))

/-- Settles O4: the ranges are a check of the 256 opcodes. -/
theorem reservedOpcodesAreExactlyThese : Obligations.ReservedOpcodesAreExactlyThese := by
  intro opc op
  rw [decode_eq_reservedOpcode_iff]
  revert opc
  decide +kernel

theorem decodeRead_of_ne_zero {op : Word} (h : op ≠ 0#32) (r : BitVec 6) :
    decodeRead r op = if regInUse r then .error .mustBeZero else .error .registerNotInUse := if_neg h

/-- The opcodes of format N check the whole operand. -/
theorem decode_formatN_word {opc : BitVec 8} (h : opc ∈ [0x00#8, 0x01#8, 0x11#8, 0x21#8, 0x22#8, 0x31#8]) :
    ∃ i, ∀ op : Word, decode (opc ++ op) = withFormat (formatN op) i := by
  simp only [List.mem_cons, List.not_mem_nil, or_false] at h
  obtain rfl | rfl | rfl | rfl | rfl | rfl := h
  · exact ⟨_, decode_init_word⟩
  · exact ⟨_, decode_tick_word⟩
  · exact ⟨_, decode_envAdv_word⟩
  · exact ⟨_, decode_lfoAdv_word⟩
  · exact ⟨_, decode_lfoSync_word⟩
  · exact ⟨_, decode_mapAdv_word⟩

/-- The opcodes of formats K and P check the high half of the operand. -/
theorem decode_formatK_word {opc : BitVec 8} (h : opc ∈ [0x30#8, 0x33#8]) (op : Word) :
    ∃ i, decode (opc ++ op) = withFormat (formatK op) i := by
  simp only [List.mem_cons, List.not_mem_nil, or_false] at h
  obtain rfl | rfl := h
  · exact ⟨_, decode_mapNoteon_word op⟩
  · exact ⟨_, decode_mapBend_word op⟩

/-- Settles O5, format by format. -/
theorem mustBeZeroBitsPerFormat : Obligations.MustBeZeroBitsPerFormat := by
  refine ⟨fun opc hopc op => ?_, fun op => ?_, fun op => ⟨_, decode_lfoSetf_word op⟩, fun opc hopc op => ?_, fun op => ?_,
    fun r op hop => ⟨fun hr => ?_, fun hr => ?_⟩⟩
  · obtain ⟨i, hi⟩ := decode_formatN_word hopc
    rw [hi, withFormat_eq_mustBeZero_iff, formatN_iff]
  · rw [decode_envGate_word, withFormat_eq_mustBeZero_iff, formatB_iff]
    omega
  · obtain ⟨i, hi⟩ := decode_formatK_word hopc op
    rw [hi, withFormat_eq_mustBeZero_iff, formatK_iff]
    omega
  · rw [decode_mapNoteoff_word, withFormat_eq_mustBeZero_iff, formatK1_iff]
    omega
  · rw [decode_read_word, decodeRead_of_ne_zero hop, if_pos hr]
  · rw [decode_read_word, decodeRead_of_ne_zero hop, if_neg (by simp [hr])]

/-- Settles O7, by the cause. -/
theorem stepAnswersUndecodableWordIllegal : Obligations.StepAnswersUndecodableWordIllegal := by
  intro s w c rest hbox hdec
  rw [step_command hbox, performWord_of_error hdec, raiseIllegal_eq]
  cases c <;> rfl

/-! ### Every word is answered (30_encoding.md R81) -/

/-- The result is a next state. -/
def Completes (r : Result) : Prop := ∃ t, r = .next t

theorem respond_completes (v : Word) (s : State) : Completes (respond v s) := ⟨_, respond_eq v s⟩

theorem raise_completes (status : Status) (info : Word) (s : State) : Completes (raise status info s) :=
  ⟨_, raise_eq status info s⟩

theorem ite_completes {c : Prop} [Decidable c] {a b : Result} (ha : Completes a) (hb : Completes b) :
    Completes (if c then a else b) := by
  split
  · exact ha
  · exact hb

theorem inMode_completes {body : Result} (h : Completes body) (m : Mode) (s : State) : Completes (inMode m s body) :=
  ite_completes h (raise_completes ..)

theorem execWrcfg_completes (r : BitVec 6) (value : Word) (s : State) : Completes (execWrcfg r value s) := by
  have hcheck (x : Reg) : Completes (wrcfgReg x value s) :=
    ite_completes (raise_completes ..) (ite_completes (respond_completes ..) (raise_completes ..))
  unfold execWrcfg
  split
  · exact raise_completes ..
  · exact ite_completes (raise_completes ..) (ite_completes (raise_completes ..) (hcheck _))

theorem execRdreg_completes (r : BitVec 6) (s : State) : Completes (execRdreg r s) := by
  unfold execRdreg execRdregWith
  split
  · exact raise_completes ..
  · exact respond_completes ..

/-- No command ends in a fault or a refusal. -/
theorem exec_completes (i : Instr) (s : State) : Completes (exec i s) := by
  cases i with
  | init => exact inMode_completes (ite_completes (respond_completes ..) (raise_completes ..)) ..
  | mapNoteon note vel =>
    exact inMode_completes (ite_completes (raise_completes ..) (ite_completes (raise_completes ..)
      (ite_completes (respond_completes ..) (respond_completes ..)))) ..
  | mapNoteoff note => exact inMode_completes (ite_completes (raise_completes ..) (respond_completes ..)) ..
  | mapBend bend => exact inMode_completes (ite_completes (raise_completes ..) (respond_completes ..)) ..
  | wrcfg r value => exact execWrcfg_completes r value s
  | rdreg r => exact execRdreg_completes r s
  | tick | envGate | envAdv | lfoSetf | lfoAdv | lfoSync | mapAdv => exact inMode_completes (respond_completes ..) ..

/-- Every answer to a command has a response and leaves the waiting inputs alone. -/
theorem Answer.response_and_inbox {i : Instr} {s t : State} (h : Answer i s t) :
    ∃ r, t.response = some r ∧ t.inbox = s.inbox := by
  cases h with
  | kept r => exact ⟨r, rfl, rfl⟩
  | performed => exact ⟨_, rfl, performed_inbox i s⟩
  | failedInit mask hi => exact ⟨_, rfl, rfl⟩

/-- Settles O10: a word that decodes is a command, which completes in an answer, and any other word is answered `ILLEGAL`. -/
theorem everyWordIsAnswered : Obligations.EveryWordIsAnswered := by
  intro w s
  cases hdec : decode w with
  | ok i =>
    obtain ⟨t, ht⟩ := exec_completes i s
    obtain ⟨r, hresponse, hinbox⟩ := (exec_endsInAnswer i s t ht).response_and_inbox
    exact ⟨t, r, (performWord_of_ok hdec s).trans ht, hresponse, hinbox⟩
  | error cause => exact ⟨_, _, (performWord_of_error hdec s).trans (raiseIllegal_eq cause s), rfl, rfl⟩

end Sys2Proof.Machine

/-! PROOFS of the statements of 40_clock_and_lifecycle.md: `INIT` (R102 to R104) and `TICK` (R105). -/

namespace Sys2Proof.Machine

/-! ### A word whose must-be-zero bits are set (30_encoding.md R86) -/

theorem performWord_of_mustBeZero {w : CommandWord} (h : decode w = .error .mustBeZero) (s : State) :
    performWord w s = .next (answered s .illegal 2#32) := performWord_of_error h s

/-- A command of format N refuses every operand but zero. -/
theorem performWord_formatN_of_ne_zero {opc : BitVec 8} (hopc : opc ∈ [0x00#8, 0x01#8, 0x11#8, 0x21#8, 0x22#8, 0x31#8])
    {op : Word} (hop : op ≠ 0#32) (s : State) : performWord (opc ++ op) s = .next (answered s .illegal 2#32) := by
  obtain ⟨hformatN, -⟩ := mustBeZeroBitsPerFormat
  exact performWord_of_mustBeZero ((hformatN opc hopc op).mpr hop) s

/-! ### The construction check (40_clock_and_lifecycle.md R103) -/

theorem trimNonMonotone_eq_true_iff (m : Mapper) (mem : Memory) :
    trimNonMonotone m mem = true ↔ ∃ n < 127, noteTarget m mem n > noteTarget m mem (n + 1) := by
  simp [trimNonMonotone]

/-- The three conditions of R103, one per bit, leave only one mask. -/
theorem configCheck_eq {s : State} {mask : BitVec 3} (hperiod : mask.getLsbD 0 = true ↔ s.sys.tickPeriod = 0#32)
    (hscale : mask.getLsbD 1 = true ↔ fxOf s.map.scale ≤ 0)
    (htrim : mask.getLsbD 2 = true ↔ ∃ n < 127, noteTarget s.map s.mem n > noteTarget s.map s.mem (n + 1)) :
    configCheck s = mask := by
  refine BitVec.eq_of_getLsbD_eq fun i hi => Bool.eq_iff_iff.mpr ?_
  obtain rfl | rfl | rfl : i = 0 ∨ i = 1 ∨ i = 2 := by omega
  · rw [configCheck_bit0, decide_eq_true_iff, hperiod]
  · rw [configCheck_bit1, decide_eq_true_iff, hscale]
  · rw [configCheck_bit2, trimNonMonotone_eq_true_iff, htrim]

/-! ### The constructed mapper (40_clock_and_lifecycle.md R104) -/

/-- The zero note lies no semitone from itself, so its pitch is its trim. -/
theorem noteTarget_zeroNote (m : Mapper) (mem : Memory) :
    noteTarget m mem m.zeroNote.toNat = fxOf (memRead mem .trim m.zeroNote.toNat) := by
  have hlow : -2 ^ 31 ≤ fxOf (memRead mem .trim m.zeroNote.toNat) := BitVec.le_toInt _
  have hhigh : fxOf (memRead mem .trim m.zeroNote.toNat) < 2 ^ 31 := BitVec.toInt_lt
  rw [noteTarget, sub_self, mul_zero, fdiv_eq_div _ (by norm_num), Int.zero_ediv, zero_add]
  exact sat32_of_mem _ (by omega) (by omega)

theorem pattern32_fxOf (w : Word) : pattern32 (fxOf w) = w := BitVec.ofInt_toInt

/-- A pitch in the accumulator stands above sixteen zero bits. -/
theorem pattern48_fxOf (w : Word) : pattern48 (fxOf w * 2 ^ 16) = w ++ 0#16 := by
  have hsplit := acc_split (w ++ 0#16)
  rw [extractLsb'_append_high, extractLsb'_append_low] at hsplit
  calc pattern48 (fxOf w * 2 ^ 16) = pattern48 (w ++ 0#16 : BitVec 48).toInt := congrArg pattern48 (by simpa [fxOf] using hsplit)
    _ = w ++ 0#16 := BitVec.ofInt_toInt

theorem runInitMapper_eq (m : Mapper) (mem : Memory) : runInitMapper m mem =
    { m with
      note := m.zeroNote
      bend := 0#14
      target := memRead mem .trim m.zeroNote.toNat
      acc := memRead mem .trim m.zeroNote.toNat ++ 0#16
      slewRemain := 0#32
      velCv := 0#32 } := by
  rw [runInitMapper, noteTarget_zeroNote, pattern32_fxOf, pattern48_fxOf]

/-! ### `INIT` (40_clock_and_lifecycle.md R102) -/

theorem exec_init_of_ne_config {s : State} (hm : s.sys.mode ≠ .config) :
    exec .init s = .next (answered s .modeError ((modeCode s.sys.mode).setWidth 32)) := inMode_of_ne hm _

theorem exec_init_of_passed {s : State} (hm : s.sys.mode = .config) (hcheck : configCheck s = 0#3) :
    exec .init s = .next (answered (construct s) .ok 0#32) :=
  (inMode_of_eq hm _).trans (if_pos hcheck)

theorem exec_init_of_failed {s : State} (hm : s.sys.mode = .config) (hcheck : configCheck s ≠ 0#3) :
    exec .init s = .next (answered (failConstruction (configCheck s) s) .configurationError
      ((configCheck s).setWidth 32)) :=
  (inMode_of_eq hm _).trans (if_neg hcheck)

/-- Settles O15: the three conditions fix the mask, and the mask decides between the construction and the failure. -/
theorem initConstructsOrLatchesItsCauses : Obligations.InitConstructsOrLatchesItsCauses := by
  refine ⟨fun s mask hm hperiod hscale htrim => ?_, fun s hm => exec_init_of_ne_config hm,
    performWord_of_ok (decode_init_word 0#32), fun s op hop => performWord_formatN_of_ne_zero (by decide) hop s⟩
  obtain rfl : configCheck s = mask := configCheck_eq hperiod hscale htrim
  refine ⟨fun hpassed => ⟨noteTarget_zeroNote s.map s.mem, ?_⟩, exec_init_of_failed hm⟩
  rw [exec_init_of_passed hm hpassed, construct, runInitMapper_eq]
  rfl

/-! ### `TICK` (40_clock_and_lifecycle.md R105) -/

/-- The count of ticks wraps at 2^32. -/
theorem add_one_eq_ofNat_mod (w : Word) : w + 1#32 = BitVec.ofNat 32 ((w.toNat + 1) % 2 ^ 32) := by
  refine BitVec.eq_of_toNat_eq ?_
  rw [BitVec.toNat_add, BitVec.toNat_ofNat, BitVec.toNat_ofNat, Nat.mod_mod]

/-- Settles O16: `TICK` is performed in RUN mode alone. -/
theorem tickCountsOneModulo : Obligations.TickCountsOneModulo := by
  refine ⟨fun s hm => ?_, fun s hm => exec_operational_of_ne_run rfl hm, performWord_of_ok (decode_tick_word 0#32),
    fun s op hop => performWord_formatN_of_ne_zero (by decide) hop s⟩
  rw [← add_one_eq_ofNat_mod]
  exact exec_unitAdvance_of_run (by decide) hm

end Sys2Proof.Machine

/-! PROOFS of the statements of 41_envelope.md: the gate (R112, R113), the envelope's tick (R115), what a run of ticks reaches
(R118), the phase transitions (R117), and who shows the LEGATO bit (R112 corner case (c)). -/

namespace Sys2Proof.Machine

/-! ### The gate (41_envelope.md R112, R113) -/

theorem exec_envGate_of_run {s : State} (hm : s.sys.mode = .run) (on : Bool) :
    exec (.envGate on) s = .next (answered (performed (.envGate on) s) .ok 0#32) := inMode_of_eq hm _

/-- A gate-on outside Attack starts one, and only from Idle can it touch the level. -/
theorem gateOn_starts_attack {e : Envelope} (h : e.phase ≠ .attack) :
    ∃ level, gateOn e =
        { e with phase := .attack, gate := true, level, target := 0x80000000#32, remain := e.attackT } ∧
      (e.phase ≠ .idle → level = e.level) := by
  unfold gateOn
  split
  · next hidle => exact ⟨_, rfl, fun hne => absurd hidle hne⟩
  · exact ⟨_, rfl, fun _ => rfl⟩
  · exact ⟨_, rfl, fun _ => rfl⟩
  · exact ⟨_, rfl, fun _ => rfl⟩
  · next hattack => exact absurd hattack h

theorem gateOn_of_attack {e : Envelope} (h : e.phase = .attack) : gateOn e = { e with gate := true } := by
  simp only [gateOn, h]

theorem gateOff_of_open {e : Envelope} (h : e.gate = true) :
    gateOff e = { e with phase := .release, gate := false, target := 0#32, remain := e.releaseT } := if_pos h

theorem gateOff_of_closed {e : Envelope} (h : e.gate = false) : gateOff e = e := if_neg (by simp [h])

/-- The operand of `ENV.GATE` has one bit (30_encoding.md R83, format B). -/
theorem performWord_envGate_of_one_lt {op : Word} (hop : 1 < op.toNat) (s : State) :
    performWord (0x10#8 ++ op) s = .next (answered s .illegal 2#32) := by
  obtain ⟨-, hformatB, -⟩ := mustBeZeroBitsPerFormat
  exact performWord_of_mustBeZero ((hformatB op).mpr hop) s

/-- Settles O20, phase by phase. -/
theorem gateOnStartsOrKeepsAttack : Obligations.GateOnStartsOrKeepsAttack := by
  refine ⟨fun s hm => ?_, fun s on hm => exec_operational_of_ne_run rfl hm,
    fun s => ⟨performWord_of_ok (decodeOfEncodeIsTheCommand (.envGate true)) s,
      performWord_of_ok (decodeOfEncodeIsTheCommand (.envGate false)) s⟩,
    fun s op hop => performWord_envGate_of_one_lt hop s⟩
  rw [exec_envGate_of_run hm]
  cases hph : s.env.phase with
  | attack => simp only [performed, if_true, gateOn_of_attack hph]; rfl
  | idle | decay | sustain | release => simp only [performed, if_true, gateOn, hph]; rfl

/-- Settles O21. -/
theorem gateOffReleasesOnlyAnOpenGate : Obligations.GateOffReleasesOnlyAnOpenGate := by
  refine ⟨fun s hm hopen => ?_, fun s hm hclosed => ?_⟩
  · rw [exec_envGate_of_run hm, ← gateOff_of_open hopen]
    rfl
  · have hkept : performed (.envGate false) s = s := congrArg s.setEnv (gateOff_of_closed hclosed)
    rw [exec_envGate_of_run hm, hkept]

/-! ### The envelope's tick (41_envelope.md R115) -/

/-- The phases in which a segment runs. -/
def SegmentRuns (ph : Phase) : Prop := ph = .attack ∨ ph = .decay ∨ ph = .release

theorem envelopeAdvance_of_rest (P : Params) {e : Envelope} (h : e.phase = .idle ∨ e.phase = .sustain) :
    envelopeAdvance P e = e := by
  obtain h | h := h
  all_goals simp only [envelopeAdvance, h]

theorem envelopeAdvance_of_runs (P : Params) {e : Envelope} (h : SegmentRuns e.phase) :
    envelopeAdvance P e = segmentStep P e := by
  obtain h | h | h := h
  all_goals simp only [envelopeAdvance, h]

theorem phase_rests_or_segmentRuns (ph : Phase) : (ph = .idle ∨ ph = .sustain) ∨ SegmentRuns ph := by
  unfold SegmentRuns
  cases ph <;> simp

/-- The number that one curve step of a running segment makes of the level. -/
def nextLevel (P : Params) (e : Envelope) : Int :=
  (segStep P (unsignedOf e.level) (unsignedOf e.target) e.remain e.curve (segDuration e e.phase)).1

theorem nextLevel_linear (P : Params) {e : Envelope} (hcurve : e.curve = .linear) (hrem : 1 < e.remain.toNat) :
    nextLevel P e = e.level.toNat + tdiv ((e.target.toNat : Int) - e.level.toNat) e.remain.toNat := by
  rw [nextLevel, hcurve, segStep_linear hrem]
  rfl

theorem nextLevel_exponential (P : Params) {e : Envelope} (hcurve : e.curve = .exponential) (hrem : 1 < e.remain.toNat) :
    nextLevel P e = e.level.toNat +
      mulrate ((e.target.toNat : Int) - e.level.toNat) (P.expRate (segDuration e e.phase)) := by
  rw [nextLevel, hcurve, segStep_exponential hrem]
  rfl

/-- Before the deadline a tick moves the level by the curve and counts down; the phase stays. -/
theorem envelopeAdvance_between (P : Params) {e : Envelope} (h : SegmentRuns e.phase) (hrem : 1 < e.remain.toNat) :
    envelopeAdvance P e = { e with level := pattern32 (nextLevel P e), remain := e.remain - 1#32 } := by
  rw [envelopeAdvance_of_runs P h]
  simp only [segmentStep, segStep_counts_down hrem]
  rfl

/-- At the deadline a tick sets the level to the target and enters the next phase. -/
theorem envelopeAdvance_deadline (P : Params) {e : Envelope} (h : SegmentRuns e.phase) (hrem : e.remain.toNat ≤ 1) :
    envelopeAdvance P e = completeSegment { e with level := e.target, remain := 0#32 } :=
  (envelopeAdvance_of_runs P h).trans (segmentStep_deadline P hrem)

theorem sub_one_eq_ofNat {w : Word} (h : 1 ≤ w.toNat) : w - 1#32 = BitVec.ofNat 32 (w.toNat - 1) := by
  refine BitVec.eq_of_toNat_eq ?_
  rw [toNat_sub_one h, BitVec.toNat_ofNat, Nat.mod_eq_of_lt (by omega)]

theorem exec_envAdv_of_run {s : State} (hm : s.sys.mode = .run) :
    exec .envAdv s = .next (answered (s.setEnv (envelopeAdvance params s.env)) .ok 0#32) :=
  exec_unitAdvance_of_run (by decide) hm

theorem exec_envAdv_of_deadline {s : State} (hm : s.sys.mode = .run) (h : SegmentRuns s.env.phase)
    (hrem : s.env.remain.toNat ≤ 1) : exec .envAdv s =
      .next (answered (s.setEnv (completeSegment { s.env with level := s.env.target, remain := 0#32 })) .ok 0#32) := by
  rw [exec_envAdv_of_run hm, envelopeAdvance_deadline params h hrem]

/-- Settles O22: the phases in which nothing moves, a running segment before its deadline and at it. -/
theorem envelopeAdvanceByPhase : Obligations.EnvelopeAdvanceByPhase := by
  refine ⟨fun s hm hrest => ?_, fun s dur hm hrem hdur => ?_, fun s hm hrem =>
      ⟨fun hph => (exec_envAdv_of_deadline hm (.inl hph) hrem).trans ?_,
        fun hph => (exec_envAdv_of_deadline hm (.inr (.inl hph)) hrem).trans ?_,
        fun hph => (exec_envAdv_of_deadline hm (.inr (.inr hph)) hrem).trans ?_⟩,
    fun s hm => exec_operational_of_ne_run rfl hm, performWord_of_ok (decode_envAdv_word 0#32),
    fun s op hop => performWord_formatN_of_ne_zero (by decide) hop s⟩
  · rw [exec_envAdv_of_run hm, envelopeAdvance_of_rest params hrest]
    rfl
  · have hruns : SegmentRuns s.env.phase := hdur.imp And.left (Or.imp And.left And.left)
    have hduration : segDuration s.env s.env.phase = dur := by
      obtain ⟨hph, rfl⟩ | ⟨hph, rfl⟩ | ⟨hph, rfl⟩ := hdur
      all_goals simp only [segDuration, hph]
    rw [exec_envAdv_of_run hm, envelopeAdvance_between params hruns hrem, sub_one_eq_ofNat (by omega)]
    split
    · next hcurve => rw [nextLevel_linear params hcurve hrem]; rfl
    · next hcurve => rw [nextLevel_exponential params hcurve hrem, hduration]; rfl
  all_goals
    simp only [completeSegment, hph]
    rfl

/-! ### A gate command and the ticks after it (41_envelope.md R118) -/

theorem runCommands_cons {i : Instr} {s t : State} (h : exec i s = .next t) (rest : List Instr) :
    runCommands (i :: rest) s = runCommands rest t := by simp only [runCommands, h]

/-- A run of ticks iterates the envelope's tick. -/
theorem runCommands_envAdvs {s : State} (hm : s.sys.mode = .run) (n : Nat) :
    ∃ t, runCommands (List.replicate n .envAdv) s = .next t ∧ t.env = (envelopeAdvance params)^[n] s.env := by
  induction n generalizing s with
  | zero => exact ⟨s, rfl, rfl⟩
  | succ n ih =>
    rw [List.replicate_succ, runCommands_cons (exec_envAdv_of_run hm), Function.iterate_succ_apply]
    exact ih hm

theorem runCommands_envGate_envAdvs {s : State} (hm : s.sys.mode = .run) (on : Bool) (n : Nat) :
    ∃ t, runCommands (.envGate on :: List.replicate n .envAdv) s = .next t ∧
      t.env = (envelopeAdvance params)^[n] (if on then gateOn s.env else gateOff s.env) := by
  rw [runCommands_cons (exec_envGate_of_run hm on)]
  exact runCommands_envAdvs (s := answered (performed (.envGate on) s) .ok 0#32) hm n

/-- A step of a rising segment neither drops the level nor passes the target. -/
theorem nextLevel_rises {P : Params} (hP : P.Legal) {e : Envelope} (h : e.level.toNat ≤ e.target.toNat) :
    e.level.toNat ≤ (pattern32 (nextLevel P e)).toNat ∧ (pattern32 (nextLevel P e)).toNat ≤ e.target.toNat := by
  obtain ⟨hup, -⟩ := segStepNeverOvershoots P hP (unsignedOf e.level) (unsignedOf e.target) e.remain e.curve
    (segDuration e e.phase)
  obtain ⟨hlow, hhigh⟩ : unsignedOf e.level ≤ nextLevel P e ∧ nextLevel P e ≤ unsignedOf e.target :=
    hup (Int.ofNat_le.mpr h)
  have htarget := e.target.isLt
  unfold unsignedOf at hlow hhigh
  have hread := unsignedOf_pattern32 (nextLevel P e) (by omega) (by omega)
  unfold unsignedOf at hread
  omega

/-- Before the deadline of a running segment ticks change the level and the count alone; the count falls by one a tick, and
a rising level stays between its start and the target. -/
theorem iterate_envelopeAdvance_between {P : Params} (hP : P.Legal) {e : Envelope} (h : SegmentRuns e.phase) {n : Nat}
    (hn : n < max e.remain.toNat 1) :
    ∃ level remain, (envelopeAdvance P)^[n] e = { e with level, remain } ∧ remain.toNat = e.remain.toNat - n ∧
      (e.level.toNat ≤ e.target.toNat → e.level.toNat ≤ level.toNat ∧ level.toNat ≤ e.target.toNat) := by
  induction n with
  | zero => exact ⟨e.level, e.remain, rfl, rfl, fun hle => ⟨le_refl _, hle⟩⟩
  | succ n ih =>
    obtain ⟨level, remain, heq, hcount, hrise⟩ := ih (by omega)
    have hrem : 1 < remain.toNat := by omega
    rw [Function.iterate_succ_apply', heq, envelopeAdvance_between P (e := { e with level, remain }) h hrem]
    refine ⟨_, _, rfl, by rw [toNat_sub_one hrem.le]; omega, fun hle => ?_⟩
    obtain ⟨hlow, hhigh⟩ := hrise hle
    have hstep := nextLevel_rises hP (e := { e with level, remain }) hhigh
    exact ⟨hlow.trans hstep.1, hstep.2⟩

/-- A segment of duration `D` completes on its `max(D, 1)`-th tick, at its target. -/
theorem iterate_envelopeAdvance_deadline {P : Params} (hP : P.Legal) {e : Envelope} (h : SegmentRuns e.phase) {n : Nat}
    (hn : n = max e.remain.toNat 1) :
    (envelopeAdvance P)^[n] e = completeSegment { e with level := e.target, remain := 0#32 } := by
  obtain ⟨m, rfl⟩ : ∃ m, n = m + 1 := ⟨n - 1, by omega⟩
  obtain ⟨level, remain, heq, hcount, -⟩ := iterate_envelopeAdvance_between hP h (n := m) (by omega)
  have hrem : remain.toNat ≤ 1 := by omega
  rw [Function.iterate_succ_apply', heq]
  exact envelopeAdvance_deadline P (e := { e with level, remain }) h hrem

/-- Settles O23: the gate command enters the segment, and the last of the ticks is its deadline. -/
theorem fullCycleReachesTopAndZeroExactly : Obligations.FullCycleReachesTopAndZeroExactly := by
  refine ⟨fun s hm hidle => ?_, fun s hm hopen => ?_⟩
  · obtain ⟨level, hattack, -⟩ := gateOn_starts_attack (e := s.env) (by simp [hidle])
    obtain ⟨t, hrun, henv⟩ := runCommands_envGate_envAdvs hm true (max s.env.attackT.toNat 1)
    rw [if_pos rfl, hattack] at henv
    have hdone := henv.trans (iterate_envelopeAdvance_deadline defaultParametersAreLegal (.inl rfl) rfl)
    exact ⟨t, hrun, by rw [hdone]; rfl, by rw [hdone]; rfl⟩
  · obtain ⟨t, hrun, henv⟩ := runCommands_envGate_envAdvs hm false (max s.env.releaseT.toNat 1)
    rw [if_neg (by decide), gateOff_of_open hopen] at henv
    have hdone := henv.trans (iterate_envelopeAdvance_deadline defaultParametersAreLegal (.inr (.inr rfl)) rfl)
    exact ⟨t, hrun, by rw [hdone]; rfl, by rw [hdone]; rfl⟩

/-- Settles O24: the new Attack starts at the level there is, which is at most its target, and rises. -/
theorem retriggerNeverDropsTheLevel : Obligations.RetriggerNeverDropsTheLevel := by
  intro s n hm hlevel hn hph
  obtain ⟨level, hattack, hkept⟩ := gateOn_starts_attack (e := s.env) (by intro h; simp [h] at hph)
  obtain rfl : level = s.env.level := hkept (by intro h; simp [h] at hph)
  obtain ⟨t, hrun, henv⟩ := runCommands_envGate_envAdvs hm true n
  rw [if_pos rfl, hattack] at henv
  obtain ⟨level, remain, heq, -, hrise⟩ := iterate_envelopeAdvance_between defaultParametersAreLegal
    (e := { s.env with phase := .attack, gate := true, target := 0x80000000#32, remain := s.env.attackT }) (.inl rfl) hn
  obtain ⟨hlow, hhigh⟩ := hrise hlevel
  refine ⟨t, hrun, by rw [henv, heq], ?_, by rw [henv, heq]; exact hlow, by rw [henv, heq]; exact hhigh⟩
  rintro rfl
  rw [henv]
  rfl

/-! ### The phase transitions (41_envelope.md R117) -/

theorem gateOn_phase (e : Envelope) : (gateOn e).phase = .attack := by
  by_cases h : e.phase = .attack
  · rw [gateOn_of_attack h]
    exact h
  · obtain ⟨level, heq, -⟩ := gateOn_starts_attack h
    rw [heq]

/-- A falling edge needs an open gate, and the gate is open in Attack, Decay and Sustain (10_state.md R36). -/
theorem gateOff_phase_change {e : Envelope} (h : EnvelopeInv e) (hne : (gateOff e).phase ≠ e.phase) :
    (e.phase = .attack ∨ e.phase = .decay ∨ e.phase = .sustain) ∧ (gateOff e).phase = .release := by
  cases hgate : e.gate with
  | false => exact absurd (congrArg Envelope.phase (gateOff_of_closed hgate)) hne
  | true => exact ⟨h.gate_iff.mp hgate, by rw [gateOff_of_open hgate]⟩

theorem completeSegment_phase_change {e : Envelope} (hne : (completeSegment e).phase ≠ e.phase) :
    (e.phase = .attack ∧ (completeSegment e).phase = .decay) ∨
      (e.phase = .decay ∧ (completeSegment e).phase = .sustain) ∨
      (e.phase = .release ∧ (completeSegment e).phase = .idle) := by
  unfold completeSegment at hne ⊢
  split
  · next hph => exact .inl ⟨hph, rfl⟩
  · next hph => exact .inr (.inl ⟨hph, rfl⟩)
  · next hph => exact .inr (.inr ⟨hph, rfl⟩)
  all_goals next hph => simp [hph] at hne

/-- A tick changes the phase only at a deadline. -/
theorem envelopeAdvance_phase_change {P : Params} {e : Envelope} (hne : (envelopeAdvance P e).phase ≠ e.phase) :
    e.remain.toNat ≤ 1 ∧
      ((e.phase = .attack ∧ (envelopeAdvance P e).phase = .decay) ∨
        (e.phase = .decay ∧ (envelopeAdvance P e).phase = .sustain) ∨
        (e.phase = .release ∧ (envelopeAdvance P e).phase = .idle)) := by
  obtain hrest | hruns := phase_rests_or_segmentRuns e.phase
  · exact absurd (congrArg Envelope.phase (envelopeAdvance_of_rest P hrest)) hne
  by_cases hrem : e.remain.toNat ≤ 1
  · rw [envelopeAdvance_deadline P hruns hrem] at hne ⊢
    exact ⟨hrem, completeSegment_phase_change hne⟩
  · exact absurd (congrArg Envelope.phase (envelopeAdvance_between P hruns (by omega))) hne

theorem writeReg_phase (x : Reg) (v : Word) (s : State) : (writeReg x v s).env.phase = s.env.phase := by cases x <;> rfl

/-- An `INIT` that is performed finds the envelope in Idle, and leaves it there. -/
theorem exec_init_phase {s t : State} (h : Inv s) (ht : exec .init s = .next t) : t.env.phase = s.env.phase := by
  by_cases hm : s.sys.mode = .config
  · have hidle := (h.fresh (by simp [hm])).phase
    by_cases hcheck : configCheck s = 0#3
    · rw [exec_init_of_passed hm hcheck] at ht
      obtain rfl := Host.Outcome.next.inj ht
      exact hidle.symm
    · rw [exec_init_of_failed hm hcheck] at ht
      obtain rfl := Host.Outcome.next.inj ht
      rfl
  · rw [exec_init_of_ne_config hm] at ht
    obtain rfl := Host.Outcome.next.inj ht
    rfl

/-- But for `INIT`, two commands change the phase. -/
theorem performed_phase_change {i : Instr} {s : State} (hi : i ≠ .init) (hne : (performed i s).env.phase ≠ s.env.phase) :
    (∃ on, i = .envGate on) ∨ i = .envAdv := by
  cases i
  case envGate on => exact .inl ⟨on, rfl⟩
  case envAdv => exact .inr rfl
  case init => contradiction
  case wrcfg r v => cases hr : regOfNumber r <;> simp [performed, hr, writeReg_phase] at hne
  all_goals exact absurd rfl hne

/-- Settles O26: a change of phase is made by a command that was performed, and each of the three has its own transitions. -/
theorem phaseTransitionsAreTheListedOnes : Obligations.PhaseTransitionsAreTheListedOnes := by
  intro i s t h ht hne
  have hi : i ≠ .init := by
    rintro rfl
    exact hne (exec_init_phase h ht)
  cases exec_endsInAnswer i s t ht with
  | kept r => exact absurd rfl hne
  | failedInit mask hinit => exact absurd hinit hi
  | performed =>
    obtain ⟨on, rfl⟩ | rfl := performed_phase_change hi hne
    · cases on with
      | true =>
        have hattack : (gateOn s.env).phase = .attack := gateOn_phase s.env
        exact .inl ⟨rfl, fun hph => hne (hattack.trans hph.symm), hattack⟩
      | false => exact .inr (.inl ⟨rfl, gateOff_phase_change h.envelope hne⟩)
    · exact .inr (.inr ⟨rfl, envelopeAdvance_phase_change hne⟩)

/-! ### The LEGATO bit (41_envelope.md R112 corner case (c)) -/

/-- The envelope with the other setting of LEGATO. -/
def Envelope.withLegato (e : Envelope) (b : Bool) : Envelope := { e with legato := b }

/-- The state with the other setting of LEGATO. -/
def State.withLegato (s : State) (b : Bool) : State := { s with env := s.env.withLegato b }

/-- The idle level is 0, so a gate-on in Idle starts from 0 whatever LEGATO says. -/
theorem gateOn_withLegato {e : Envelope} (h : e.phase = .idle → e.level = 0#32) (b : Bool) :
    gateOn (e.withLegato b) = (gateOn e).withLegato b := by
  cases hph : e.phase with
  | idle => simp [gateOn, Envelope.withLegato, hph, h hph, startAttack, enterSeg]
  | attack | decay | sustain | release => simp [gateOn, Envelope.withLegato, hph, startAttack, enterSeg]

theorem gateOff_withLegato (e : Envelope) (b : Bool) : gateOff (e.withLegato b) = (gateOff e).withLegato b := by
  cases hgate : e.gate with
  | false => simp only [gateOff_of_closed hgate, gateOff_of_closed (e := e.withLegato b) hgate]
  | true => rw [gateOff_of_open hgate, gateOff_of_open (e := e.withLegato b) hgate]; rfl

theorem completeSegment_withLegato (e : Envelope) (b : Bool) :
    completeSegment (e.withLegato b) = (completeSegment e).withLegato b := by
  cases hph : e.phase <;> simp [completeSegment, Envelope.withLegato, hph, enterSeg]

theorem envelopeAdvance_withLegato (P : Params) (e : Envelope) (b : Bool) :
    envelopeAdvance P (e.withLegato b) = (envelopeAdvance P e).withLegato b := by
  obtain hrest | hruns := phase_rests_or_segmentRuns e.phase
  · rw [envelopeAdvance_of_rest P hrest, envelopeAdvance_of_rest P (e := e.withLegato b) hrest]
  by_cases hrem : e.remain.toNat ≤ 1
  · rw [envelopeAdvance_deadline P hruns hrem, envelopeAdvance_deadline P (e := e.withLegato b) hruns hrem,
      ← completeSegment_withLegato]
    rfl
  · have hrun : 1 < e.remain.toNat := by omega
    rw [envelopeAdvance_between P hruns hrun, envelopeAdvance_between P (e := e.withLegato b) hruns hrun]
    rfl

theorem regLegal_withLegato (x : Reg) (v : Word) (s : State) (b : Bool) :
    regLegal x v (s.withLegato b) = regLegal x v s := by cases x <;> rfl

/-- ENV_CTRL alone shows LEGATO. -/
theorem readReg_withLegato {x : Reg} (hx : x ≠ .envCtrl) (P : Params) (s : State) (b : Bool) :
    readReg P x (s.withLegato b) = readReg P x s := by
  cases x
  case envCtrl => contradiction
  all_goals rfl

/-- A write of any other register leaves LEGATO alone and does not look at it. -/
theorem writeReg_withLegato {x : Reg} (hx : x ≠ .envCtrl) (v : Word) (s : State) (b : Bool) :
    writeReg x v (s.withLegato b) = (writeReg x v s).withLegato b := by
  cases x
  case envCtrl => contradiction
  all_goals rfl

theorem writeReg_legato {x : Reg} (hx : x ≠ .envCtrl) (v : Word) (s : State) :
    (writeReg x v s).env.legato = s.env.legato := by
  cases x
  case envCtrl => contradiction
  all_goals rfl

/-- Two results that differ in LEGATO at most: the first keeps the bit at `old`, the second has it at `new`. -/
def DifferInLegato (old new : Bool) (r r' : Result) : Prop :=
  ∃ t, r = .next t ∧ t.env.legato = old ∧ r' = .next (t.withLegato new)

section
variable {old new : Bool} {s : State} {r₁ r₁' r₂ r₂' : Result}

theorem respond_differInLegato (h : s.env.legato = old) (v : Word) :
    DifferInLegato old new (respond v s) (respond v (s.withLegato new)) := ⟨_, rfl, h, rfl⟩

theorem raise_differInLegato (h : s.env.legato = old) (status : Status) (info : Word) :
    DifferInLegato old new (raise status info s) (raise status info (s.withLegato new)) := ⟨_, rfl, h, rfl⟩

theorem ite_differInLegato {c : Prop} [Decidable c] (h₁ : DifferInLegato old new r₁ r₁')
    (h₂ : DifferInLegato old new r₂ r₂') : DifferInLegato old new (if c then r₁ else r₂) (if c then r₁' else r₂') := by
  split
  · exact h₁
  · exact h₂

theorem inMode_differInLegato (h : s.env.legato = old) (m : Mode) (hbody : DifferInLegato old new r₁ r₁') :
    DifferInLegato old new (inMode m s r₁) (inMode m (s.withLegato new) r₁') :=
  ite_differInLegato hbody (raise_differInLegato h ..)

end

theorem execEnvGate_differInLegato {s : State} (h : Inv s) (on new : Bool) :
    DifferInLegato s.env.legato new (execEnvGate on s) (execEnvGate on (s.withLegato new)) := by
  refine inMode_differInLegato rfl _ ⟨_, respond_eq .., ?_, ?_⟩
  · obtain ⟨phase, gate, level, target, remain, heq⟩ := gate_eq on s.env
    simp only [heq, State.setEnv_env]
  · cases on with
    | true => exact congrArg (fun e => respond 0#32 (s.setEnv e)) (gateOn_withLegato (fun hph => (h.envelope.idle hph).1) new)
    | false => exact congrArg (fun e => respond 0#32 (s.setEnv e)) (gateOff_withLegato s.env new)

theorem execEnvAdv_differInLegato (s : State) (new : Bool) :
    DifferInLegato s.env.legato new (execEnvAdv s) (execEnvAdv (s.withLegato new)) := by
  refine inMode_differInLegato rfl _ ⟨_, respond_eq .., ?_, ?_⟩
  · obtain ⟨phase, level, target, remain, heq⟩ := envelopeAdvance_eq params s.env
    simp only [heq, State.setEnv_env]
  · exact congrArg (fun e => respond 0#32 (s.setEnv e)) (envelopeAdvance_withLegato params s.env new)

theorem wrcfgReg_differInLegato {x : Reg} (hx : x ≠ .envCtrl) (value : Word) (s : State) (new : Bool) :
    DifferInLegato s.env.legato new (wrcfgReg x value s) (wrcfgReg x value (s.withLegato new)) := by
  unfold wrcfgReg
  rw [regLegal_withLegato, writeReg_withLegato hx]
  exact ite_differInLegato (raise_differInLegato rfl ..)
    (ite_differInLegato (respond_differInLegato (writeReg_legato hx value s) _) (raise_differInLegato rfl ..))

theorem ne_envCtrl_of_regOfNumber {r : BitVec 6} {x : Reg} (hr : r ≠ 0x10#6) (hx : regOfNumber r = some x) :
    x ≠ .envCtrl := by
  rintro rfl
  exact hr (regNumber_of_regOfNumber hx).symm

theorem execWrcfg_differInLegato {r : BitVec 6} (hr : r ≠ 0x10#6) (value : Word) (s : State) (new : Bool) :
    DifferInLegato s.env.legato new (execWrcfg r value s) (execWrcfg r value (s.withLegato new)) := by
  unfold execWrcfg
  split
  · exact raise_differInLegato rfl ..
  next x hx =>
  exact ite_differInLegato (raise_differInLegato rfl ..) (ite_differInLegato (raise_differInLegato rfl ..)
    (wrcfgReg_differInLegato (ne_envCtrl_of_regOfNumber hr hx) value s new))

theorem execRdreg_differInLegato {r : BitVec 6} (hr : r ≠ 0x10#6) (s : State) (new : Bool) :
    DifferInLegato s.env.legato new (execRdreg r s) (execRdreg r (s.withLegato new)) := by
  unfold execRdreg execRdregWith
  split
  · exact raise_differInLegato rfl ..
  next x hx =>
  rw [readReg_withLegato (ne_envCtrl_of_regOfNumber hr hx)]
  exact respond_differInLegato rfl _

/-- Settles O25: only the envelope's commands and the register accesses come near the bit. -/
theorem onlyEnvCtrlAccessesShowTheLegatoBit : Obligations.OnlyEnvCtrlAccessesShowTheLegatoBit := by
  intro i s b h hread hwrite
  change DifferInLegato s.env.legato b (exec i s) (exec i (s.withLegato b))
  cases i with
  | init =>
    exact inMode_differInLegato rfl _
      (ite_differInLegato (respond_differInLegato rfl _) (raise_differInLegato rfl ..))
  | envGate on => exact execEnvGate_differInLegato h on b
  | envAdv => exact execEnvAdv_differInLegato s b
  | mapNoteon note vel =>
    exact inMode_differInLegato rfl _ (ite_differInLegato (raise_differInLegato rfl ..)
      (ite_differInLegato (raise_differInLegato rfl ..)
        (ite_differInLegato (respond_differInLegato rfl _) (respond_differInLegato rfl _))))
  | mapNoteoff note =>
    exact inMode_differInLegato rfl _
      (ite_differInLegato (raise_differInLegato rfl ..) (respond_differInLegato rfl _))
  | mapBend bend =>
    exact inMode_differInLegato rfl _
      (ite_differInLegato (raise_differInLegato rfl ..) (respond_differInLegato rfl _))
  | wrcfg r value => exact execWrcfg_differInLegato (fun hr => hwrite value (hr ▸ rfl)) value s b
  | rdreg r => exact execRdreg_differInLegato (fun hr => hread (hr ▸ rfl)) s b
  | tick | lfoSetf | lfoAdv | lfoSync | mapAdv => exact inMode_differInLegato rfl _ (respond_differInLegato rfl _)

end Sys2Proof.Machine

/-! PROOFS of the statements of 42_lfo.md: the LFO's commands (R132 to R134, R140), the phase after many ticks and the draws
(R135, R142), the waveforms (R138) and the output (R139). -/

namespace Sys2Proof.Machine

/-! ### `LFO.SETF` and `LFO.SYNC` (42_lfo.md R132, R140) -/

/-- Settles O27: the command looks at the mode alone, and its format has no must-be-zero bit. -/
theorem setFrequencyWritesOnlyTheFrequency : Obligations.SetFrequencyWritesOnlyTheFrequency :=
  ⟨fun _ _ hm => inMode_of_eq hm _, fun _ _ hm => exec_operational_of_ne_run rfl hm,
    fun s value => performWord_of_ok (decode_lfoSetf_word value) s⟩

/-- Settles O29: the command looks at the mode alone. -/
theorem syncClearsOnlyThePhase : Obligations.SyncClearsOnlyThePhase :=
  ⟨fun _ hm => inMode_of_eq hm _, fun _ hm => exec_operational_of_ne_run rfl hm,
    performWord_of_ok (decode_lfoSync_word 0#32), fun s _ hop => performWord_formatN_of_ne_zero (by decide) hop s⟩

/-! ### `LFO.ADV` (42_lfo.md R133, R134) -/

/-- Within a cycle the LFO's tick moves the phase alone. -/
theorem lfoAdvance_within_cycle (P : Params) {period : Word} {l : Lfo} (h : phaseSum l period < 2 ^ 32) :
    lfoAdvance P period l = { l with phase := BitVec.ofNat 32 (phaseSum l period) } := if_neg (Nat.not_le.mpr h)

/-- A wrap draws one value, of which the high 17 bits are held (R135, R137). -/
theorem lfoAdvance_wrap (P : Params) {period : Word} {l : Lfo} (h : 2 ^ 32 ≤ phaseSum l period) :
    lfoAdvance P period l =
      { l with
        phase := BitVec.ofNat 32 (phaseSum l period)
        rng := P.prng l.rng
        hold := (P.prng l.rng).extractLsb' 15 17 } := if_pos h

theorem exec_lfoAdv_of_run {s : State} (hm : s.sys.mode = .run) :
    exec .lfoAdv s = .next (answered (s.setLfo (lfoAdvance params s.sys.tickPeriod s.lfo)) .ok 0#32) :=
  exec_unitAdvance_of_run (by decide) hm

/-- The high bits of a word, as a number. -/
theorem toNat_extractLsb'_high {n m : Nat} (w : BitVec (n + m)) : (w.extractLsb' m n).toNat = w.toNat / 2 ^ m := by
  rw [BitVec.extractLsb'_toNat, Nat.shiftRight_eq_div_pow]
  exact Nat.mod_eq_of_lt (Nat.div_lt_of_lt_mul (by simpa [pow_add, mul_comm] using w.isLt))

/-- The phase register keeps a sum modulo one cycle. -/
theorem ofNat_mod_cycle (n : Nat) : BitVec.ofNat 32 (n % 2 ^ 32) = BitVec.ofNat 32 n :=
  BitVec.eq_of_toNat_eq (by rw [BitVec.toNat_ofNat, BitVec.toNat_ofNat, Nat.mod_mod])

/-- Settles O28: the sum decides whether the tick wraps. -/
theorem lfoAdvanceMovesPhaseAndDrawsOnWrap : Obligations.LfoAdvanceMovesPhaseAndDrawsOnWrap := by
  refine ⟨fun s sum hm hsum => ?_, fun s hm => exec_operational_of_ne_run rfl hm,
    performWord_of_ok (decode_lfoAdv_word 0#32), fun s op hop => performWord_formatN_of_ne_zero (by decide) hop s⟩
  obtain rfl : sum = phaseSum s.lfo s.sys.tickPeriod := hsum
  rw [exec_lfoAdv_of_run hm]
  refine ⟨fun hwithin => ?_, fun hwrap =>
    ⟨_, toNat_extractLsb'_high (n := 17) (m := 15) (params.prng s.lfo.rng), ?_⟩⟩
  · rw [lfoAdvance_within_cycle params hwithin]
    rfl
  · rw [lfoAdvance_wrap params hwrap, ofNat_mod_cycle]
    rfl

/-! ### The phase after many ticks (42_lfo.md R142) -/

theorem lfoAdvance_phase (P : Params) (period : Word) (l : Lfo) :
    (lfoAdvance P period l).phase = BitVec.ofNat 32 (phaseSum l period) := by
  by_cases hwrap : 2 ^ 32 ≤ phaseSum l period
  · rw [lfoAdvance_wrap P hwrap]
  · rw [lfoAdvance_within_cycle P (Nat.not_le.mp hwrap)]

theorem lfoAdvance_freq (P : Params) (period : Word) (l : Lfo) : (lfoAdvance P period l).freq = l.freq := by
  obtain ⟨phase, hold, rng, heq⟩ := lfoAdvance_eq P period l
  rw [heq]

/-- No tick changes the frequency, so every one of them moves the phase by the same increment. -/
theorem iterate_lfoAdvance_phase (P : Params) (period : Word) (n : Nat) (l : Lfo) :
    ((lfoAdvance P period)^[n] l).phase.toNat = (l.phase.toNat + n * phaseInc l.freq period) % 2 ^ 32 := by
  induction n generalizing l with
  | zero =>
    have hphase := l.phase.isLt
    simp only [Function.iterate_zero, id]
    omega
  | succ n ih =>
    rw [Function.iterate_succ_apply, ih, lfoAdvance_phase, lfoAdvance_freq, BitVec.toNat_ofNat, phaseSum, Nat.succ_mul]
    omega

/-- A run of ticks iterates the LFO's tick, at the one tick period. -/
theorem runCommands_lfoAdvs {s : State} (hm : s.sys.mode = .run) (n : Nat) :
    ∃ t, runCommands (List.replicate n .lfoAdv) s = .next t ∧
      t.lfo = (lfoAdvance params s.sys.tickPeriod)^[n] s.lfo := by
  induction n generalizing s with
  | zero => exact ⟨s, rfl, rfl⟩
  | succ n ih =>
    rw [List.replicate_succ, runCommands_cons (exec_lfoAdv_of_run hm), Function.iterate_succ_apply]
    exact ih (s := answered (s.setLfo (lfoAdvance params s.sys.tickPeriod s.lfo)) .ok 0#32) hm

/-- Settles O30: increments that make one cycle vanish modulo 2^32. -/
theorem lfoPhaseAfterManyAdvances : Obligations.LfoPhaseAfterManyAdvances := by
  intro s n hm
  obtain ⟨t, hrun, hlfo⟩ := runCommands_lfoAdvs hm n
  have hphase : t.lfo.phase.toNat = (s.lfo.phase.toNat + n * phaseInc s.lfo.freq s.sys.tickPeriod) % 2 ^ 32 := by
    rw [hlfo, iterate_lfoAdvance_phase]
  refine ⟨t, hrun, hphase, fun hcycle => BitVec.eq_of_toNat_eq ?_⟩
  change n * phaseInc s.lfo.freq s.sys.tickPeriod = 2 ^ 32 at hcycle
  rw [hphase, hcycle, Nat.add_mod_right, Nat.mod_eq_of_lt s.lfo.phase.isLt]

/-! ### The draws (42_lfo.md R135, R142) -/

/-- LFO_HOLD shows the whole held value. -/
theorem hold_eq_of_readReg_eq {P : Params} {s t : State} (h : readReg P .lfoHold t = readReg P .lfoHold s) :
    t.lfo.hold = s.lfo.hold := by
  have hread (u : State) : (readReg P .lfoHold u).toInt = u.lfo.hold.toInt := BitVec.toInt_signExtend_of_le (by decide)
  exact BitVec.eq_of_toInt_eq (by rw [← hread t, h, hread s])

/-- LFO_HOLD and LFO_RNG have the same two writers (10_state.md R56). -/
theorem writer_of_draw {i : Instr} (h : Reg.lfoHold ∈ mayChange i ∨ Reg.lfoRng ∈ mayChange i) :
    i = .lfoAdv ∨ i = .init := by
  cases i
  case init => exact .inr rfl
  case lfoAdv => exact .inl rfl
  all_goals simp [mayChange, regClass] at h

/-- A command that draws is one of the two writers of LFO_HOLD and LFO_RNG. -/
theorem exec_draw {i : Instr} {s t : State} (h : exec i s = .next t)
    (hdraw : t.lfo.hold ≠ s.lfo.hold ∨ t.lfo.rng ≠ s.lfo.rng) : i = .lfoAdv ∨ i = .init := by
  obtain ⟨hreg, -⟩ := writersOfEachRegister i s t h
  refine writer_of_draw (hdraw.imp (fun hhold => ?_) fun hrng => ?_)
  · exact hreg params .lfoHold (by decide) (by decide) fun heq => hhold (hold_eq_of_readReg_eq heq)
  · exact hreg params .lfoRng (by decide) (by decide) hrng

/-- A command leaves the LFO of the state it answers from. -/
theorem lfo_of_exec_eq_answered {i : Instr} {s t u : State} {status : Status} {data : Word}
    (heq : exec i s = .next (answered u status data)) (h : exec i s = .next t) : t.lfo = u.lfo := by
  obtain rfl := Host.Outcome.next.inj (heq.symm.trans h)
  rfl

/-- Settles O31: the two writers, in the modes that perform them; an advance within a cycle draws nothing. -/
theorem heldValueChangesOnlyAtAWrap : Obligations.HeldValueChangesOnlyAtAWrap := by
  intro i s t h hdraw
  obtain rfl | rfl := exec_draw h hdraw
  · have hm : s.sys.mode = .run := by
      by_contra hm
      simp [lfo_of_exec_eq_answered (exec_operational_of_ne_run rfl hm) h] at hdraw
    refine .inl ⟨rfl, hm, Nat.not_lt.mp fun hwithin => ?_⟩
    simp [lfo_of_exec_eq_answered (exec_lfoAdv_of_run hm) h, lfoAdvance_within_cycle params hwithin] at hdraw
  · refine .inr ⟨rfl, by_contra fun hm => ?_⟩
    simp [lfo_of_exec_eq_answered (exec_init_of_ne_config hm) h] at hdraw

/-! ### The waveforms (42_lfo.md R138) -/

section
variable (P : Params) {l : Lfo}

theorem waveSample_sine (h : l.wave = .sine) :
    waveSample P l = P.sine (BitVec.ofNat 8 (l.phase.toNat / 2 ^ 24)) := by
  rw [← Nat.shiftRight_eq_div_pow]
  simp only [waveSample, h]
  rfl

theorem waveSample_triangle (h : l.wave = .triangle) :
    waveSample P l = triangleWave (l.phase.toNat / 2 ^ 14) := by
  simp only [waveSample, h, toNat_extractLsb'_high (n := 18) (m := 14) l.phase]

theorem waveSample_square (h : l.wave = .square) :
    waveSample P l = if l.phase.toNat < l.duty.toNat then 65536 else -65536 := by
  simp only [waveSample, h]

theorem waveSample_saw (h : l.wave = .saw) : waveSample P l = ((l.phase.toNat / 2 ^ 15 : Nat) : Int) - 65536 := by
  simp only [waveSample, h, toNat_extractLsb'_high (n := 17) (m := 15) l.phase]

theorem waveSample_sampleHold (h : l.wave = .sampleHold) : waveSample P l = l.hold.toInt := by
  simp only [waveSample, h]

end

/-- Settles O32, waveform by waveform. -/
theorem waveformsFollowTheirFormulas : Obligations.WaveformsFollowTheirFormulas := fun P _ =>
  ⟨waveSample_sine P, waveSample_triangle P, waveSample_square P, waveSample_saw P, waveSample_sampleHold P⟩

/-! ### The output (42_lfo.md R139) -/

/-- The triangle stays in -1.0 to 1.0 over the quarter counts of one cycle. -/
theorem triangleWave_range {q : Nat} (hq : q < 2 ^ 18) : -65536 ≤ triangleWave q ∧ triangleWave q ≤ 65536 := by
  unfold triangleWave
  split_ifs <;> omega

/-- Every waveform stays in -1.0 to 1.0. -/
theorem waveSample_range {P : Params} (hP : P.Legal) (l : Lfo) : -65536 ≤ waveSample P l ∧ waveSample P l ≤ 65536 := by
  have hphase := l.phase.isLt
  cases hwave : l.wave with
  | sine =>
    rw [waveSample_sine P hwave]
    exact ⟨hP.sine_ge _, hP.sine_le _⟩
  | triangle =>
    rw [waveSample_triangle P hwave]
    exact triangleWave_range (by omega)
  | square =>
    rw [waveSample_square P hwave]
    split <;> decide
  | saw =>
    rw [waveSample_saw P hwave]
    omega
  | sampleHold =>
    have hlow : -2 ^ 16 ≤ l.hold.toInt := BitVec.le_toInt l.hold
    have hhigh : l.hold.toInt < 2 ^ 16 := BitVec.toInt_lt
    rw [waveSample_sampleHold P hwave]
    omega

theorem mulq_eq_div (a b : Int) : mulq a b = a * b / 65536 := fdiv_eq_div _ (by norm_num)

/-- A factor in -1.0 to 1.0 does not enlarge a number: the floor of a negative product is still above the negated size,
because the size is an integer. -/
theorem mulq_within_abs {w : Int} (h₁ : -65536 ≤ w) (h₂ : w ≤ 65536) (a : Int) : -|a| ≤ mulq w a ∧ mulq w a ≤ |a| := by
  have hsize : |w * a| ≤ 65536 * |a| :=
    (abs_mul w a).trans_le (mul_le_mul_of_nonneg_right (abs_le.mpr ⟨h₁, h₂⟩) (abs_nonneg a))
  obtain ⟨hlow, hhigh⟩ := abs_le.mp hsize
  rw [mulq_eq_div]
  omega

/-- LFO_VALUE shows the output, which is an `fx` number. -/
theorem fxOf_readReg_lfoValue (P : Params) (s : State) : fxOf (readReg P .lfoValue s) = lfoOut P s.lfo :=
  fxOf_pattern32 _ (sat32_ge _) (sat32_le _)

/-- The output does not leave the amplitude about the offset, and saturates nowhere, if that range is representable. -/
theorem lfoOut_range {P : Params} (hP : P.Legal) {l : Lfo} (hlow : -2147483648 ≤ fxOf l.offset - |fxOf l.amp|)
    (hhigh : fxOf l.offset + |fxOf l.amp| ≤ 2147483647) :
    fxOf l.offset - |fxOf l.amp| ≤ lfoOut P l ∧ lfoOut P l ≤ fxOf l.offset + |fxOf l.amp| := by
  obtain ⟨hge, hle⟩ := waveSample_range hP l
  obtain ⟨hdown, hup⟩ := mulq_within_abs hge hle (fxOf l.amp)
  rw [lfoOut, sat32_of_mem _ (by omega) (by omega)]
  omega

/-- Settles O33: the read shows the output, and the samples in -1.0 to 1.0 bound it. -/
theorem lfoOutputStaysWithinItsRange : Obligations.LfoOutputStaysWithinItsRange := by
  refine ⟨fun s => ⟨_, exec_rdreg .lfoValue s, ?_⟩, fun P hP l => ⟨waveSample_range hP l, lfoOut_range hP⟩⟩
  rw [fxOf_readReg_lfoValue, ← mulq_eq_div]
  rfl

end Sys2Proof.Machine

/-! PROOFS of the statements of 43_midi_to_cv.md: the pitch of a note (R155), the note commands (R152, R160) and the bend
(R161), the mapper's tick and the glide (R163, R167), the pitch output (R156, R157, R165) and the velocity curves (R158). -/

namespace Sys2Proof.Machine

/-! ### The words of the note and bend commands (30_encoding.md R83, formats K, P and K1) -/

/-- `MAP.NOTEON` and `MAP.BEND` have operands of 16 bits. -/
theorem performWord_formatK_of_lt {opc : BitVec 8} (hopc : opc ∈ [0x30#8, 0x33#8]) {op : Word} (hop : 65535 < op.toNat)
    (s : State) : performWord (opc ++ op) s = .next (answered s .illegal 2#32) := by
  obtain ⟨-, -, -, hformatK, -⟩ := mustBeZeroBitsPerFormat
  exact performWord_of_mustBeZero ((hformatK opc hopc op).mpr hop) s

/-- The operand of `MAP.NOTEOFF` has 8 bits. -/
theorem performWord_mapNoteoff_of_lt {op : Word} (hop : 255 < op.toNat) (s : State) :
    performWord (0x32#8 ++ op) s = .next (answered s .illegal 2#32) := by
  obtain ⟨-, -, -, -, hformatK1, -⟩ := mustBeZeroBitsPerFormat
  exact performWord_of_mustBeZero ((hformatK1 op).mpr hop) s

/-! ### The pitch of a note (43_midi_to_cv.md R155) -/

theorem noteTarget_eq (m : Mapper) (mem : Memory) (n : Nat) : noteTarget m mem n =
    sat32 (fxOf m.scale * ((n : Int) - m.zeroNote.toNat) / 12 + fxOf (memRead mem .trim n)) := by
  rw [noteTarget, fdiv_eq_div _ (by norm_num)]

/-- Settles O60: the saturation is the clamp to the `fx` range. -/
theorem noteTargetFollowsItsFormula : Obligations.NoteTargetFollowsItsFormula := fun m mem n _ => noteTarget_eq m mem n

/-! ### `MAP.NOTEON` (43_midi_to_cv.md R152) -/

/-- A struck note sets the note, its target and the velocity output; the glide bit decides whether the accumulator jumps to
the target or a glide starts. -/
theorem noteOn_struck (P : Params) (mem : Memory) (note vel : Nat) (m : Mapper) : noteOn P mem note vel m =
    { m with
      note := BitVec.ofNat 7 note
      target := pattern32 (noteTarget m mem note)
      velCv := velCurve P m mem vel
      slewRemain := if m.glideEn then m.glideT else 0#32
      acc := if m.glideEn then m.acc else pattern32 (noteTarget m mem note) ++ 0#16 } := by
  have hjump := pattern48_fxOf (pattern32 (noteTarget m mem note))
  rw [fxOf_noteTarget] at hjump
  rw [noteOn, hjump]
  cases m.glideEn <;> rfl

section
variable {s : State} {note vel : BitVec 8} (hm : s.sys.mode = .run)
include hm

theorem exec_mapNoteon_of_note_gt (hnote : 127 < note.toNat) :
    exec (.mapNoteon note vel) s = .next (answered s .valueOutOfRange 1#32) := (inMode_of_eq hm _).trans (if_pos hnote)

/-- The checks after the note's, once that has passed. -/
theorem exec_mapNoteon_of_note_le (hnote : note.toNat ≤ 127) : exec (.mapNoteon note vel) s =
    if 127 < vel.toNat then raiseRange .velocity s
    else if vel.toNat = 0 then respond 0#32 s
    else respond 0#32 (performed (.mapNoteon note vel) s) := (inMode_of_eq hm _).trans (if_neg (Nat.not_lt.mpr hnote))

theorem exec_mapNoteon_of_vel_gt (hnote : note.toNat ≤ 127) (hvel : 127 < vel.toNat) :
    exec (.mapNoteon note vel) s = .next (answered s .valueOutOfRange 2#32) :=
  (exec_mapNoteon_of_note_le hm hnote).trans (if_pos hvel)

/-- A note-on with velocity 0 is a note-off in disguise. -/
theorem exec_mapNoteon_of_vel_zero (hnote : note.toNat ≤ 127) (hvel : vel.toNat = 0) :
    exec (.mapNoteon note vel) s = .next (answered s .ok 0#32) := by
  rw [exec_mapNoteon_of_note_le hm hnote, if_neg (by omega), if_pos hvel]
  rfl

theorem exec_mapNoteon_of_accepted (hnote : note.toNat ≤ 127) (hvel₁ : 1 ≤ vel.toNat) (hvel : vel.toNat ≤ 127) :
    exec (.mapNoteon note vel) s =
      .next (answered (s.setMap (noteOn params s.mem note.toNat vel.toNat s.map)) .ok 0#32) := by
  rw [exec_mapNoteon_of_note_le hm hnote, if_neg (by omega), if_neg (by omega)]
  rfl

end

/-- Settles O34: the checks in their order, and an accepted note-on strikes the note. -/
theorem noteOnCommand : Obligations.NoteOnCommand := by
  refine ⟨fun s note vel hm hnote hvel₁ hvel => ⟨pattern32 (noteTarget s.map s.mem note.toNat), ?_, ?_⟩,
    fun s note vel hm => exec_mapNoteon_of_note_gt hm, fun s note vel hm => exec_mapNoteon_of_vel_gt hm,
    fun s note vel hm => exec_mapNoteon_of_vel_zero hm, fun s note vel hm => exec_operational_of_ne_run rfl hm,
    fun s note vel => performWord_of_ok (decodeOfEncodeIsTheCommand (.mapNoteon note vel)) s,
    fun s op hop => performWord_formatK_of_lt (by decide) hop s⟩
  · rw [fxOf_noteTarget, noteTarget_eq]
    rfl
  · rw [exec_mapNoteon_of_accepted hm hnote hvel₁ hvel, noteOn_struck]
    rfl

/-! ### `MAP.NOTEOFF` (43_midi_to_cv.md R160) -/

/-- Settles O35: the range check of the note is the command's one check in RUN mode. -/
theorem noteOffChangesNothing : Obligations.NoteOffChangesNothing :=
  ⟨fun _ _ hm hnote => (inMode_of_eq hm _).trans (if_neg (Nat.not_lt.mpr hnote)),
    fun _ _ hm hnote => (inMode_of_eq hm _).trans (if_pos hnote), fun _ _ hm => exec_operational_of_ne_run rfl hm,
    fun s note => performWord_of_ok (decodeOfEncodeIsTheCommand (.mapNoteoff note)) s,
    fun s _ hop => performWord_mapNoteoff_of_lt hop s⟩

/-! ### `MAP.BEND` (43_midi_to_cv.md R161) -/

/-- A bend in range survives the 14 bits of its register. -/
theorem toInt_ofInt_bend {b : Int} (hlow : -8192 ≤ b) (hhigh : b ≤ 8191) : (BitVec.ofInt 14 b).toInt = b := by
  rw [BitVec.toInt_ofInt]
  exact Int.bmod_eq_of_le (by omega) (by omega)

/-- MAP_BEND shows the bend sign-extended. -/
theorem fxOf_readReg_mapBend (P : Params) (s : State) : fxOf (readReg P .mapBend s) = s.map.bend.toInt :=
  BitVec.toInt_signExtend_of_le (by decide)

/-- Settles O36: the range of the command is the range of the register. -/
theorem bendIsStoredSignExtended : Obligations.BendIsStoredSignExtended := by
  refine ⟨fun s bend hm hlow hhigh => ?_, fun s bend hm hout => (inMode_of_eq hm _).trans (if_pos hout),
    fun s bend hm => exec_operational_of_ne_run rfl hm,
    fun s bend => performWord_of_ok (decodeOfEncodeIsTheCommand (.mapBend bend)) s,
    fun s op hop => performWord_formatK_of_lt (by decide) hop s⟩
  have hkept := toInt_ofInt_bend hlow hhigh
  have hin : ¬ (bend.toInt < -8192 ∨ bend.toInt > 8191) := by omega
  exact ⟨_, hkept, (inMode_of_eq hm _).trans (if_neg hin), (fxOf_readReg_mapBend params _).trans hkept⟩

/-! ### `MAP.ADV` (43_midi_to_cv.md R163) -/

theorem exec_mapAdv_of_run {s : State} (hm : s.sys.mode = .run) :
    exec .mapAdv s = .next (answered (s.setMap (mapperAdvance params s.map)) .ok 0#32) :=
  exec_unitAdvance_of_run (by decide) hm

/-- At the deadline, and at rest, a tick puts the accumulator at the target. -/
theorem mapperAdvance_deadline (P : Params) {m : Mapper} (hrem : m.slewRemain.toNat ≤ 1) :
    mapperAdvance P m = { m with acc := m.target ++ 0#16, slewRemain := 0#32 } := by
  have hdone : glideStep P m = (fxOf m.target * 2 ^ 16, 0#32, true) := segStep_deadline hrem ..
  rw [mapperAdvance_eq, hdone, pattern48_fxOf]

/-- Before the deadline a tick moves the accumulator by the curve and counts down. -/
theorem mapperAdvance_between (P : Params) {m : Mapper} (hrem : 1 < m.slewRemain.toNat) :
    mapperAdvance P m = { m with acc := pattern48 (glideStep P m).1, slewRemain := m.slewRemain - 1#32 } := by
  have hcount : (glideStep P m).2 = (m.slewRemain - 1#32, false) := segStep_counts_down hrem ..
  rw [mapperAdvance_eq, hcount]

/-- The accumulator holds every number a curve step can give: the step ends between two 48-bit numbers, where it was and
the target. -/
theorem toInt_pattern48_glideStep {P : Params} (hP : P.Legal) (m : Mapper) :
    (pattern48 (glideStep P m).1).toInt = (glideStep P m).1 := by
  obtain ⟨hup, hdown⟩ := segStepNeverOvershoots P hP m.acc.toInt (fxOf m.target * 2 ^ 16) m.slewRemain m.glideCurve
    m.glideT
  have hlow : -2 ^ 47 ≤ m.acc.toInt := BitVec.le_toInt m.acc
  have hhigh : m.acc.toInt < 2 ^ 47 := BitVec.toInt_lt
  have htlow : -2 ^ 31 ≤ fxOf m.target := BitVec.le_toInt m.target
  have hthigh : fxOf m.target < 2 ^ 31 := BitVec.toInt_lt
  unfold glideStep
  exact toInt_pattern48 _ (by omega) (by omega)

theorem glideStep_linear (P : Params) {m : Mapper} (hcurve : m.glideCurve = .linear) (hrem : 1 < m.slewRemain.toNat) :
    (glideStep P m).1 = m.acc.toInt + tdiv (fxOf m.target * 2 ^ 16 - m.acc.toInt) m.slewRemain.toNat := by
  rw [glideStep, hcurve, segStep_linear hrem]

theorem glideStep_exponential (P : Params) {m : Mapper} (hcurve : m.glideCurve = .exponential)
    (hrem : 1 < m.slewRemain.toNat) :
    (glideStep P m).1 = m.acc.toInt + mulrate (fxOf m.target * 2 ^ 16 - m.acc.toInt) (P.expRate m.glideT) := by
  rw [glideStep, hcurve, segStep_exponential hrem]

/-- Settles O37: the tick at the deadline and before it. -/
theorem mapperAdvanceMovesTheAccumulator : Obligations.MapperAdvanceMovesTheAccumulator := by
  refine ⟨fun s hm hrem => ?_, fun s hm hrem => ⟨_, (toInt_pattern48_glideStep defaultParametersAreLegal s.map).trans ?_, ?_⟩,
    fun s hm => exec_operational_of_ne_run rfl hm, performWord_of_ok (decode_mapAdv_word 0#32),
    fun s op hop => performWord_formatN_of_ne_zero (by decide) hop s⟩
  · rw [exec_mapAdv_of_run hm, mapperAdvance_deadline params hrem]
    rfl
  · split
    · next hcurve => exact glideStep_linear params hcurve hrem
    · next hcurve => exact glideStep_exponential params hcurve hrem
  · rw [exec_mapAdv_of_run hm, mapperAdvance_between params hrem, sub_one_eq_ofNat (by omega)]
    rfl

/-! ### A note-on and the ticks after it (43_midi_to_cv.md R167) -/

/-- Every tick counts one down, to 0 and no further. -/
theorem glideStep_remain (P : Params) (m : Mapper) : (glideStep P m).2.1.toNat = m.slewRemain.toNat - 1 := by
  by_cases hrem : m.slewRemain.toNat ≤ 1
  · rw [glideStep, segStep_deadline hrem, BitVec.toNat_zero]
    omega
  · rw [glideStep, segStep_counts_down (Nat.not_le.mp hrem), toNat_sub_one (by omega)]

/-- Ticks change the accumulator and the count alone. -/
theorem iterate_mapperAdvance (P : Params) (m : Mapper) (n : Nat) :
    ∃ acc slewRemain, (mapperAdvance P)^[n] m = { m with acc, slewRemain } ∧
      slewRemain.toNat = m.slewRemain.toNat - n := by
  induction n with
  | zero => exact ⟨m.acc, m.slewRemain, rfl, rfl⟩
  | succ n ih =>
    obtain ⟨acc, slewRemain, heq, hcount⟩ := ih
    have hstep : _ = slewRemain.toNat - 1 := glideStep_remain P { m with acc, slewRemain }
    rw [Function.iterate_succ_apply', heq]
    exact ⟨_, _, mapperAdvance_eq P _, by omega⟩

/-- After a tick or more, and as many as remained, the accumulator stands on the target. -/
theorem iterate_mapperAdvance_deadline (P : Params) {m : Mapper} {n : Nat} (hn : max m.slewRemain.toNat 1 ≤ n) :
    (mapperAdvance P)^[n] m = { m with acc := m.target ++ 0#16, slewRemain := 0#32 } := by
  obtain ⟨k, rfl⟩ : ∃ k, n = k + 1 := ⟨n - 1, by omega⟩
  obtain ⟨acc, slewRemain, heq, hcount⟩ := iterate_mapperAdvance P m k
  have hrem : slewRemain.toNat ≤ 1 := by omega
  rw [Function.iterate_succ_apply', heq]
  exact mapperAdvance_deadline P (m := { m with acc, slewRemain }) hrem

/-- A run of ticks iterates the mapper's tick. -/
theorem runCommands_mapAdvs {s : State} (hm : s.sys.mode = .run) (n : Nat) :
    ∃ t, runCommands (List.replicate n .mapAdv) s = .next t ∧ t.map = (mapperAdvance params)^[n] s.map := by
  induction n generalizing s with
  | zero => exact ⟨s, rfl, rfl⟩
  | succ n ih =>
    rw [List.replicate_succ, runCommands_cons (exec_mapAdv_of_run hm), Function.iterate_succ_apply]
    exact ih (s := answered (s.setMap (mapperAdvance params s.map)) .ok 0#32) hm

theorem runCommands_mapNoteon_mapAdvs {s : State} (hm : s.sys.mode = .run) {note vel : BitVec 8} (hnote : note.toNat ≤ 127)
    (hvel₁ : 1 ≤ vel.toNat) (hvel : vel.toNat ≤ 127) (n : Nat) :
    ∃ t, runCommands (.mapNoteon note vel :: List.replicate n .mapAdv) s = .next t ∧
      t.map = (mapperAdvance params)^[n] (noteOn params s.mem note.toNat vel.toNat s.map) := by
  rw [runCommands_cons (exec_mapNoteon_of_accepted hm hnote hvel₁ hvel)]
  exact runCommands_mapAdvs (s := answered (s.setMap (noteOn params s.mem note.toNat vel.toNat s.map)) .ok 0#32) hm n

theorem noteOn_target (P : Params) (mem : Memory) (note vel : Nat) (m : Mapper) :
    (noteOn P mem note vel m).target = pattern32 (noteTarget m mem note) := by rw [noteOn_struck]

/-- A struck note leaves at most the configured glide time (R152). -/
theorem noteOn_slewRemain_le (P : Params) (mem : Memory) (note vel : Nat) (m : Mapper) :
    (noteOn P mem note vel m).slewRemain.toNat ≤ m.glideT.toNat := by
  rw [noteOn_struck]
  cases m.glideEn <;> simp

/-- A word in the accumulator's `fx` part, as a number. -/
theorem toInt_append_zero (w : Word) : (w ++ 0#16 : BitVec 48).toInt = fxOf w * 2 ^ 16 := by
  have hlow : -2 ^ 31 ≤ fxOf w := BitVec.le_toInt w
  have hhigh : fxOf w < 2 ^ 31 := BitVec.toInt_lt
  rw [← pattern48_fxOf]
  exact toInt_pattern48 _ (by omega) (by omega)

/-- Settles O38: the ticks are as many as can remain after the note-on, and the last of them is the deadline or comes
after it. -/
theorem glideConvergesWithinItsTime : Obligations.GlideConvergesWithinItsTime := by
  intro s note vel hm hnote hvel₁ hvel
  obtain ⟨t, hrun, hmap⟩ := runCommands_mapNoteon_mapAdvs hm hnote hvel₁ hvel (max s.map.glideT.toNat 1)
  rw [iterate_mapperAdvance_deadline params (max_le_max_right 1 (noteOn_slewRemain_le ..)), noteOn_target] at hmap
  refine ⟨t, hrun, ?_, ?_, by rw [hmap]⟩
  · rw [hmap, toInt_append_zero, fxOf_noteTarget]
  · rw [hmap, extractLsb'_append_high]

/-! ### The pitch output (43_midi_to_cv.md R156, R157, R165) -/

/-- MAP_PITCH_CV shows the pitch output, which is an `fx` number. -/
theorem fxOf_readReg_mapPitchCv (P : Params) (s : State) : fxOf (readReg P .mapPitchCv s) = pitchOut s.map :=
  fxOf_pattern32 _ (sat32_ge _) (sat32_le _)

/-- Settles O41: both floors are divisions by a positive number. -/
theorem pitchReadIsNotePlusBend : Obligations.PitchReadIsNotePlusBend := by
  refine fun s => ⟨_, exec_rdreg .mapPitchCv s, ?_⟩
  rw [fxOf_readReg_mapPitchCv, pitchOut, bendCv, fdiv_eq_div _ (by norm_num), fdiv_eq_div _ (by norm_num)]
  rfl

/-- With the glide off a struck note sounds at once, at its target plus the bend. -/
theorem pitchOut_noteOn_of_glide_off (P : Params) (mem : Memory) (note vel : Nat) {m : Mapper} (hoff : m.glideEn = false) :
    pitchOut (noteOn P mem note vel m) = sat32 (noteTarget m mem note + bendCv m m.bend.toInt) := by
  have hfloor : fdiv (pattern32 (noteTarget m mem note) ++ 0#16 : BitVec 48).toInt (2 ^ 16) = noteTarget m mem note := by
    rw [toInt_append_zero, fxOf_noteTarget, fdiv_eq_div _ (by norm_num)]
    exact Int.mul_ediv_cancel _ (by norm_num)
  rw [noteOn_struck, hoff]
  exact congrArg (fun pitch => sat32 (pitch + bendCv m m.bend.toInt)) hfloor

/-- The check of neighbouring notes orders any two notes. -/
theorem Constructible.noteTarget_le {s : State} (h : Constructible s) {n m : Nat} (hnm : n ≤ m) (hm : m ≤ 127) :
    noteTarget s.map s.mem n ≤ noteTarget s.map s.mem m := by
  induction m, hnm using Nat.le_induction with
  | base => exact le_refl _
  | succ m _ ih => exact (ih (by omega)).trans (h.target_mono m (by omega))

/-- Settles O39: the targets are ordered by the construction check, both get the one bend, and saturation keeps the order. -/
theorem pitchIsMonotoneInTheNote : Obligations.PitchIsMonotoneInTheNote := by
  intro s n m v v' hinv hm hoff hnm hm127 hv₁ hv hv₁' hv'
  refine ⟨_, _, exec_mapNoteon_of_accepted hm (hnm.trans hm127) hv₁ hv, exec_mapNoteon_of_accepted hm hm127 hv₁' hv', ?_⟩
  change pitchOut (noteOn params s.mem n.toNat v.toNat s.map) ≤ pitchOut (noteOn params s.mem m.toNat v'.toNat s.map)
  rw [pitchOut_noteOn_of_glide_off params _ _ _ hoff, pitchOut_noteOn_of_glide_off params _ _ _ hoff]
  exact sat32_mono (Int.add_le_add_right ((hinv.valid hm).noteTarget_le hnm hm127) _)

/-! ### The velocity curves (43_midi_to_cv.md R158) -/

/-- A number that a register can hold survives it. -/
theorem toNat_pattern32_natCast {n : Nat} (h : n < 2 ^ 32) : (pattern32 n).toNat = n := by
  rw [pattern32, BitVec.ofInt_natCast, BitVec.toNat_ofNat, Nat.mod_eq_of_lt h]

section
variable {m : Mapper} (mem : Memory)

theorem velCurve_linear (P : Params) (h : m.velCurve = .linear) {v : Nat} (hv : v ≤ 127) :
    (velCurve P m mem v).toNat = v * 2 ^ 31 / 127 := by
  have hfloor : fdiv ((v : Int) * 2 ^ 31) 127 = (v * 2 ^ 31 / 127 : Nat) := fdiv_eq_div _ (by norm_num)
  simp only [velCurve, h, hfloor]
  exact toNat_pattern32_natCast (by omega)

theorem velCurve_exponential (h : m.velCurve = .exponential) {v : Nat} (hv : v ≤ 127) :
    (velCurve params m mem v).toNat = v * v * 2 ^ 31 / 16129 := by
  simp only [velCurve, h]
  exact toNat_pattern32_natCast ((defaultVelExp_le hv).trans_lt (by decide))

theorem velCurve_table (P : Params) (h : m.velCurve = .table) (v : Nat) :
    velCurve P m mem v = memRead mem .vlut v := by
  simp only [velCurve, h]

end

/-- The square law is strict: two squares differ by at least 1, and 2^31 is more than the divisor. -/
theorem squareLaw_strictMono {v w : Nat} (h : v < w) : v * v * 2 ^ 31 / 16129 < w * w * 2 ^ 31 / 16129 := by
  have hsq : v * v < w * w := Nat.mul_self_lt_mul_self h
  omega

/-- Settles O40, curve by curve. -/
theorem velocityCurves : Obligations.VelocityCurves := by
  refine fun m mem => ⟨fun v _ hv => ⟨fun h => velCurve_linear mem params h hv, fun h => velCurve_exponential mem h hv,
    fun h => velCurve_table mem params h v⟩, fun hne => ?_⟩
  cases hcurve : m.velCurve with
  | linear =>
    refine ⟨BitVec.eq_of_toNat_eq (velCurve_linear mem params hcurve le_rfl), fun v w _ hvw hw => ?_⟩
    rw [velCurve_linear mem params hcurve (by omega), velCurve_linear mem params hcurve hw]
    omega
  | exponential =>
    refine ⟨BitVec.eq_of_toNat_eq (velCurve_exponential mem hcurve le_rfl), fun v w _ hvw hw => ?_⟩
    rw [velCurve_exponential mem hcurve (by omega), velCurve_exponential mem hcurve hw]
    exact squareLaw_strictMono hvw
  | table => exact absurd hcurve hne

end Sys2Proof.Machine

/-! PROOFS of the statements of 44_register_access.md: `WRCFG` and its refusals (R176), the table window (R177, R179) and
`RDREG` (R178). -/

namespace Sys2Proof.Machine

/-! ### The checks of `WRCFG`, in their order (30_encoding.md R87) -/

theorem exec_wrcfg_of_not_inUse {r : BitVec 6} (hr : regOfNumber r = none) (v : Word) (s : State) :
    exec (.wrcfg r v) s = .next (answered s .illegal 3#32) := by
  change execWrcfg r v s = _
  rw [execWrcfg, hr]
  rfl

section
variable {r : BitVec 6} {x : Reg} {v : Word} {s : State}

theorem exec_wrcfg_of_not_writable (hr : regOfNumber r = some x) (hw : regWritable x = false) :
    exec (.wrcfg r v) s = .next (answered s .illegal 4#32) := by
  change execWrcfg r v s = _
  rw [execWrcfg, hr]
  exact if_pos (by simp [hw])

theorem exec_wrcfg_of_mustBeZero (hr : regOfNumber r = some x) (hw : regWritable x = true) (hmbz : v &&& regMbz x ≠ 0#32) :
    exec (.wrcfg r v) s = .next (answered s .illegal 2#32) := by
  change execWrcfg r v s = _
  rw [execWrcfg, hr]
  exact (if_neg (by simp [hw])).trans (if_pos hmbz)

/-- A write that passes the checks of the word itself (steps 2 to 4). -/
theorem exec_wrcfg_of_fits (hr : regOfNumber r = some x) (hw : regWritable x = true) (hmbz : v &&& regMbz x = 0#32) :
    exec (.wrcfg r v) s = wrcfgReg x v s := by
  change execWrcfg r v s = _
  rw [execWrcfg, hr]
  exact (if_neg (by simp [hw])).trans (if_neg (not_not.mpr hmbz))

theorem wrcfgReg_of_mode (hx : x ≠ .tabAddr) (hm : s.sys.mode ≠ .config) :
    wrcfgReg x v s = .next (answered s .modeError ((modeCode s.sys.mode).setWidth 32)) := if_pos ⟨hx, hm⟩

/-- The pointer is written in any mode, the other registers in CONFIG mode. -/
theorem wrcfgReg_of_performed (hm : s.sys.mode = .config ∨ x = .tabAddr) :
    wrcfgReg x v s = if regLegal x v s then respond 0#32 (writeReg x v s) else raiseIllegal .valueNotLegal s :=
  if_neg (by tauto)

theorem wrcfgReg_of_legal (hm : s.sys.mode = .config ∨ x = .tabAddr) (hlegal : regLegal x v s = true) :
    wrcfgReg x v s = .next (answered (writeReg x v s) .ok 0#32) := (wrcfgReg_of_performed hm).trans (if_pos hlegal)

theorem wrcfgReg_of_not_legal (hm : s.sys.mode = .config ∨ x = .tabAddr) (hlegal : regLegal x v s = false) :
    wrcfgReg x v s = .next (answered s .illegal 5#32) := (wrcfgReg_of_performed hm).trans (if_neg (by simp [hlegal]))

end

/-! ### The values a register refuses (44_register_access.md R176, R177) -/

theorem waveOfCode_isSome (c : BitVec 3) : (waveOfCode c).isSome = decide (c.toNat ≤ 4) := by decide +revert

theorem velCurveOfCode_isSome (c : BitVec 2) : (velCurveOfCode c).isSome = decide (c.toNat ≠ 3) := by decide +revert

/-- Four registers refuse a value; every other register takes all of them. -/
theorem regLegal_eq_false_iff (x : Reg) (v : Word) (s : State) : regLegal x v s = false ↔
    (x = .envSustain ∧ 2 ^ 31 < v.toNat) ∨ (x = .lfoCtrl ∧ 4 < v.toNat % 8) ∨ (x = .mapCtrl ∧ v.toNat % 4 = 3) ∨
      (x = .tabData ∧ s.tab.sel = .vlut ∧ 2 ^ 31 < v.toNat) := by
  cases x
  case envSustain => simp [regLegal, unitOne_eq]
  case lfoCtrl => simp [regLegal, waveOfCode_isSome]
  case mapCtrl => simp [regLegal, velCurveOfCode_isSome]
  case tabData => cases hsel : s.tab.sel <;> simp [regLegal, hsel, unitOne_eq]
  all_goals simp [regLegal]

theorem regWritable_of_not_legal {x : Reg} {v : Word} {s : State} (h : regLegal x v s = false) : regWritable x = true := by
  obtain ⟨rfl, -⟩ | ⟨rfl, -⟩ | ⟨rfl, -⟩ | ⟨rfl, -⟩ := (regLegal_eq_false_iff x v s).mp h
  all_goals rfl

/-- Settles O44: each refusal is one check, and the checks before it have passed. -/
theorem wrcfgRefusalsInOrder : Obligations.WrcfgRefusalsInOrder := by
  refine fun s r v => ⟨fun hr => exec_wrcfg_of_not_inUse hr v s, fun x hr => ⟨exec_wrcfg_of_not_writable hr,
    exec_wrcfg_of_mustBeZero hr, fun hw hmbz hx hm => ?_, fun hmbz hm hvalue => ?_⟩⟩
  · rw [exec_wrcfg_of_fits hr hw hmbz, wrcfgReg_of_mode hx hm]
  · have hlegal := (regLegal_eq_false_iff x v s).mpr hvalue
    rw [exec_wrcfg_of_fits hr (regWritable_of_not_legal hlegal) hmbz, wrcfgReg_of_not_legal (.inl hm) hlegal]

/-! ### The table window (44_register_access.md R177) -/

/-- Settles O45: a legal value is stored by the one table write, and its rules are those of 20_memory.md R60. -/
theorem windowWriteStoresOneEntry : Obligations.WindowWriteStoresOneEntry := by
  refine ⟨fun s v hm hsel hv => ?_, fun s v hm hwf hv => ?_⟩
  · obtain ⟨-, hrefused⟩ := wrcfgRefusalsInOrder s (regNumber .tabData) v
    obtain ⟨-, -, -, hvalue⟩ := hrefused .tabData rfl
    exact hvalue BitVec.and_zero hm (.inr (.inr (.inr ⟨rfl, hsel, hv⟩)))
  · refine ⟨memWrite s.mem s.tab.sel s.tab.idx.toNat v, ?_, memWrite_wf hwf _ s.tab.idx.isLt v,
      memRead_memWrite_same hwf _ _ v, fun _ _ hother => memRead_memWrite_other s.mem hother v⟩
    exact (exec_wrcfg_of_fits (x := .tabData) rfl rfl BitVec.and_zero).trans
      (wrcfgReg_of_legal (.inl hm) (decide_eq_true hv))

/-! ### A register reads back as the value written (44_register_access.md R176) -/

theorem toNat_curveCode_curveOfBit (b : Bool) : (curveCode (curveOfBit b)).toNat = b.toNat := by cases b <;> rfl

theorem toNat_selCode_selOfBit (b : Bool) : (selCode (selOfBit b)).toNat = b.toNat := by cases b <;> rfl

theorem waveCode_of_waveOfCode : ∀ c : BitVec 3, ∀ w ∈ waveOfCode c, waveCode w = c := by decide

theorem velCurveCode_of_velCurveOfCode : ∀ c : BitVec 2, ∀ w ∈ velCurveOfCode c, velCurveCode w = c := by decide

theorem toNat_getLsbD (v : Word) (i : Nat) : (v.getLsbD i).toNat = v.toNat / 2 ^ i % 2 := Nat.toNat_testBit v.toNat i

/-- A mask of the high bits leaves the low ones free. -/
theorem toNat_lt_of_highMask (n m : Nat) {v : BitVec (n + m)} (h : v &&& (BitVec.allOnes n ++ 0#m) = 0#n ++ 0#m) :
    v.toNat < 2 ^ m := (extractLsb'_high_eq_zero_iff v).mp ((and_highMask_eq_iff v 0#n).mp h)

/-- A word that its low bits can hold is those bits, widened again. -/
theorem setWidth_extractLsb'_of_lt {n : Nat} (hn : n ≤ 32) {v : Word} (h : v.toNat < 2 ^ n) :
    (v.extractLsb' 0 n).setWidth 32 = v := by
  refine BitVec.eq_of_toNat_eq ?_
  rw [BitVec.toNat_setWidth_of_le hn, BitVec.extractLsb'_toNat, Nat.shiftRight_zero, Nat.mod_eq_of_lt h]

section
variable {v : Word} (P : Params) (s : State)

theorem readReg_writeReg_envCtrl (h : v &&& regMbz .envCtrl = 0#32) : readReg P .envCtrl (writeReg .envCtrl v s) = v := by
  have hlt : v.toNat < 2 ^ 2 := toNat_lt_of_highMask 30 2 h
  refine BitVec.eq_of_toNat_eq ((envCtrlWord_toNat _).trans ?_)
  simp only [writeReg, State.setEnv_env, toNat_curveCode_curveOfBit, toNat_getLsbD]
  omega

theorem readReg_writeReg_lfoCtrl (h : v &&& regMbz .lfoCtrl = 0#32) (hlegal : regLegal .lfoCtrl v s = true) :
    readReg P .lfoCtrl (writeReg .lfoCtrl v s) = v := by
  have hlt : v.toNat < 2 ^ 3 := toNat_lt_of_highMask 29 3 h
  obtain ⟨w, hw⟩ := Option.isSome_iff_exists.mp hlegal
  refine BitVec.eq_of_toNat_eq ((lfoCtrlWord_toNat _).trans ?_)
  simp only [writeReg, State.setLfo_lfo, writeLfoCtrl, hw, waveCode_of_waveOfCode _ w hw,
    BitVec.extractLsb'_toNat, Nat.shiftRight_zero]
  omega

theorem readReg_writeReg_mapCtrl (h : v &&& regMbz .mapCtrl = 0#32) (hlegal : regLegal .mapCtrl v s = true) :
    readReg P .mapCtrl (writeReg .mapCtrl v s) = v := by
  have hlt : v.toNat < 2 ^ 4 := toNat_lt_of_highMask 28 4 h
  obtain ⟨c, hc⟩ := Option.isSome_iff_exists.mp hlegal
  refine BitVec.eq_of_toNat_eq ((mapCtrlWord_toNat _).trans ?_)
  simp only [writeReg, State.setMap_map, writeMapCtrl, hc, velCurveCode_of_velCurveOfCode _ c hc,
    BitVec.extractLsb'_toNat, Nat.shiftRight_zero, toNat_curveCode_curveOfBit, toNat_getLsbD]
  omega

theorem readReg_writeReg_mapZeroNote (h : v &&& regMbz .mapZeroNote = 0#32) :
    readReg P .mapZeroNote (writeReg .mapZeroNote v s) = v :=
  setWidth_extractLsb'_of_lt (by decide) (toNat_lt_of_highMask 25 7 h)

theorem readReg_writeReg_mapBendRange (h : v &&& regMbz .mapBendRange = 0#32) :
    readReg P .mapBendRange (writeReg .mapBendRange v s) = v :=
  setWidth_extractLsb'_of_lt (by decide) (toNat_lt_of_highMask 24 8 h)

/-- Bit 7 of the pointer, between its two fields, is zero. -/
theorem readReg_writeReg_tabAddr (h : v &&& regMbz .tabAddr = 0#32) : readReg P .tabAddr (writeReg .tabAddr v s) = v := by
  have hlt : v.toNat < 2 ^ 9 := by
    refine toNat_lt_of_highMask 23 9 ?_
    calc v &&& 0xFFFFFE00#32 = v &&& regMbz .tabAddr &&& 0xFFFFFE00#32 := by rw [BitVec.and_assoc]; rfl
      _ = 0#32 := by rw [h]; rfl
  have hbit : v.toNat / 2 ^ 7 % 2 = 0 := by
    have hzero : v.getLsbD 7 = false := by simpa [regMbz] using congrArg (·.getLsbD 7) h
    rw [← toNat_getLsbD, hzero]
    rfl
  refine BitVec.eq_of_toNat_eq ((tabAddrWord_toNat _).trans ?_)
  simp only [writeReg, State.setTab_tab, toNat_selCode_selOfBit, toNat_getLsbD, BitVec.extractLsb'_toNat, Nat.shiftRight_zero]
  omega

/-- A register whose value is a field, or several, needs the checks; a register of 32 bits is stored as it is. -/
theorem readReg_writeReg_same {x : Reg} (hwf : s.mem.wf = true) (hw : regWritable x = true) (hmbz : v &&& regMbz x = 0#32)
    (hlegal : regLegal x v s = true) : readReg P x (writeReg x v s) = v := by
  cases x
  case envCtrl => exact readReg_writeReg_envCtrl P s hmbz
  case lfoCtrl => exact readReg_writeReg_lfoCtrl P s hmbz hlegal
  case mapCtrl => exact readReg_writeReg_mapCtrl P s hmbz hlegal
  case mapZeroNote => exact readReg_writeReg_mapZeroNote P s hmbz
  case mapBendRange => exact readReg_writeReg_mapBendRange P s hmbz
  case tabAddr => exact readReg_writeReg_tabAddr P s hmbz
  case tabData => exact memRead_memWrite_same hwf s.tab.sel s.tab.idx.toNat v
  case tickPeriod | envAttackT | envDecayT | envSustain | envReleaseT => rfl
  case lfoFreq | lfoAmp | lfoOffset | lfoDuty | lfoSeed | mapScale | mapGlideT => rfl
  all_goals contradiction

end

theorem memRead_writeReg_other {x : Reg} {s : State} {space : TableSel} {i : Nat}
    (h : x = .tabData → space ≠ s.tab.sel ∨ i ≠ s.tab.idx.toNat) (v : Word) :
    memRead (writeReg x v s).mem space i = memRead s.mem space i := by
  by_cases hx : x = .tabData
  · obtain rfl := hx
    exact memRead_tabWrite_other (h rfl) v
  · rw [writeReg_mem hx]

/-- Settles O43: the write is the whole effect, and the response shows in no register. -/
theorem wrcfgWritesItsRegisterOnly : Obligations.WrcfgWritesItsRegisterOnly := by
  intro s x v hwf hw hmbz hm hlegal
  have hexec : exec (.wrcfg (regNumber x) v) s = .next (answered (writeReg x v s) .ok 0#32) :=
    (exec_wrcfg_of_fits (regOfNumber_regNumber x) hw hmbz).trans (wrcfgReg_of_legal hm hlegal)
  refine ⟨_, hexec, rfl, writeReg_inbox x v s, fun P => ?_, fun P y hne hcmp hwin => ?_,
    fun space i hother => memRead_writeReg_other hother v⟩
  · exact (readReg_withResponse ..).trans (readReg_writeReg_same P s hwf hw hmbz hlegal)
  · exact (readReg_withResponse ..).trans (readReg_writeReg_other hne hcmp hwin P v s)

/-! ### `RDREG` (44_register_access.md R178, R179) -/

theorem exec_rdreg_of_not_inUse {r : BitVec 6} (hr : regInUse r = false) (s : State) :
    exec (.rdreg r) s = .next (answered s .illegal 3#32) := by
  have hnone : regOfNumber r = none := by simpa [regInUse] using hr
  change execRdregWith params r s = _
  rw [execRdregWith, hnone]
  rfl

/-- The window shows the entry that the pointer selects. -/
theorem readReg_tabData (P : Params) (s : State) : readReg P .tabData s = memRead s.mem s.tab.sel s.tab.idx.toNat := rfl

/-- ELAPSED_FRAC shows the low half of the elapsed time. -/
theorem readReg_elapsedFrac (P : Params) (s : State) : readReg P .elapsedFrac s =
    BitVec.ofNat 32 (s.sys.tickCount.toNat * s.sys.tickPeriod.toNat % 2 ^ 32) := (ofNat_mod_cycle _).symm

/-- Settles O46: one rule answers every number in use, and the lists write out what it reads. -/
theorem rdregAnswersAndChangesNothing : Obligations.RdregAnswersAndChangesNothing := by
  refine ⟨fun s => ?_, fun s => ?_, fun s p hp => ?_, fun s x => exec_rdreg x s,
    fun s r => performWord_of_ok ((decode_read_word r 0#32).trans (if_pos rfl)) s, fun s => ?_,
    fun s r hr => exec_rdreg_of_not_inUse hr s, fun s r op hr hop => ?_⟩
  · have helapsedFrac := exec_rdreg .elapsedFrac s
    rw [readReg_elapsedFrac] at helapsedFrac
    simp only [List.forall_mem_cons]
    exact ⟨exec_rdreg .id s, exec_rdreg .tickPeriod s, exec_rdreg .tickCount s, exec_rdreg .elapsedS s, helapsedFrac,
      exec_rdreg .envAttackT s, exec_rdreg .envDecayT s, exec_rdreg .envSustain s, exec_rdreg .envReleaseT s,
      exec_rdreg .envLevel s, exec_rdreg .envTarget s, exec_rdreg .envRemain s, exec_rdreg .lfoFreq s,
      exec_rdreg .lfoAmp s, exec_rdreg .lfoOffset s, exec_rdreg .lfoDuty s, exec_rdreg .lfoSeed s,
      exec_rdreg .lfoPhase s, exec_rdreg .lfoRng s, exec_rdreg .lfoValue s, List.forall_mem_nil _⟩
  · simp only [List.forall_mem_cons]
    exact ⟨exec_rdreg .mapScale s, exec_rdreg .mapGlideT s, exec_rdreg .mapTarget s, exec_rdreg .mapSlewRemain s,
      exec_rdreg .mapNoteCv s, exec_rdreg .mapPitchCv s, exec_rdreg .mapVelCv s, exec_rdreg .tabData s,
      List.forall_mem_nil _⟩
  · have hnumber : regNumber p.2 = p.1 := by
      revert p
      decide
    rw [← hnumber]
    exact exec_rdreg p.2 s
  · rw [readReg_tabData]
    cases s.tab.sel <;> rfl
  · obtain ⟨-, -, -, -, -, hread⟩ := mustBeZeroBitsPerFormat
    obtain ⟨hmbz, -⟩ := hread r op hop
    exact performWord_of_mustBeZero (hmbz hr) s

end Sys2Proof.Machine

/-! PROOFS of the statements of 60_exceptions.md: what a rejected command leaves unchanged (R187), the statuses of each command
(R188), the commands by mode (R196), the changes of mode (R197) and the failed block (R189). -/

namespace Sys2Proof.Machine

/-! ### `INIT` by its outcome (40_clock_and_lifecycle.md R102) -/

/-- `INIT` is refused by the mode, constructs, or latches the causes of its failure. -/
theorem exec_init_cases {s t : State} (h : exec .init s = .next t) :
    (s.sys.mode ≠ .config ∧ t = answered s .modeError ((modeCode s.sys.mode).setWidth 32)) ∨
      (s.sys.mode = .config ∧ configCheck s = 0#3 ∧ t = answered (construct s) .ok 0#32) ∨
      (s.sys.mode = .config ∧ configCheck s ≠ 0#3 ∧
        t = answered (failConstruction (configCheck s) s) .configurationError ((configCheck s).setWidth 32)) := by
  by_cases hm : s.sys.mode = .config
  · by_cases hcheck : configCheck s = 0#3
    · rw [exec_init_of_passed hm hcheck] at h
      exact .inr (.inl ⟨hm, hcheck, (Host.Outcome.next.inj h).symm⟩)
    · rw [exec_init_of_failed hm hcheck] at h
      exact .inr (.inr ⟨hm, hcheck, (Host.Outcome.next.inj h).symm⟩)
  · rw [exec_init_of_ne_config hm] at h
    exact .inl ⟨hm, (Host.Outcome.next.inj h).symm⟩

/-! ### A rejected command (60_exceptions.md R187) -/

/-- Only a failed `INIT` is answered with an error and writes more than the response. -/
theorem exec_of_rejected {i : Instr} (hi : i ≠ .init) {s t : State} {r : Response} (h : exec i s = .next t)
    (hresponse : t.response = some r) (hr : r.status ≠ .ok) : t = { s with response := some r } := by
  cases exec_endsInAnswer i s t h with
  | kept r' => rw [Option.some.inj hresponse]
  | performed =>
    obtain rfl := Option.some.inj hresponse
    exact absurd rfl hr
  | failedInit mask hinit => exact absurd hinit hi

/-- Settles O52: a word that does not decode and a command other than `INIT` write the response alone, and `INIT` ends in one
of three ways. -/
theorem rejectedCommandChangesNothing : Obligations.RejectedCommandChangesNothing := by
  intro w s t r h hresponse hr
  cases hdec : decode w with
  | error cause =>
    rw [performWord_of_error hdec, raiseIllegal_eq] at h
    obtain rfl := Host.Outcome.next.inj h
    obtain rfl := Option.some.inj hresponse
    exact .inl rfl
  | ok i =>
    rw [performWord_of_ok hdec] at h
    by_cases hi : i = .init
    · subst hi
      have hw : 0x0000000000#40 = w := encode_of_decode hdec
      obtain ⟨-, rfl⟩ | ⟨-, -, rfl⟩ | ⟨hm, hcheck, rfl⟩ := exec_init_cases h <;>
        obtain rfl := Option.some.inj hresponse
      · exact .inl rfl
      · exact absurd rfl hr
      · exact .inr ⟨hw.symm, rfl, hm, _, hcheck, rfl, rfl⟩
    · exact .inl (exec_of_rejected hi h hresponse hr)

/-! ### The statuses of each command (60_exceptions.md R188) -/

/-- Every response the result puts at the port satisfies `p`. -/
abbrev AnsweredWith (result : Result) (p : Response → Prop) : Prop :=
  ∀ t r, result = .next t → t.response = some r → p r

section
variable {p : Response → Prop} {s : State}

theorem respond_answeredWith {v : Word} (h : p ⟨.ok, v⟩) : AnsweredWith (respond v s) p := by
  rintro _ _ ⟨⟩ ⟨⟩
  exact h

theorem raise_answeredWith {status : Status} {info : Word} (h : p ⟨status, info⟩) :
    AnsweredWith (raise status info s) p := by
  rintro _ _ ⟨⟩ ⟨⟩
  exact h

theorem ite_answeredWith {c : Prop} [Decidable c] {a b : Result} (ha : c → AnsweredWith a p) (hb : AnsweredWith b p) :
    AnsweredWith (if c then a else b) p := by
  split
  next hc => exact ha hc
  · exact hb

/-- A command that one mode performs is answered as its body is, or refused in the other modes. -/
theorem inMode_answeredWith {m : Mode} {body : Result}
    (hmode : s.sys.mode ≠ m → p ⟨.modeError, (modeCode s.sys.mode).setWidth 32⟩) (hbody : AnsweredWith body p) :
    AnsweredWith (inMode m s body) p := by
  unfold inMode
  split
  · exact hbody
  next hm => exact raise_answeredWith (hmode hm)

end

/-- The table pointer is register 0x35 (10_state.md R21). -/
theorem eq_tabAddr_iff {r : BitVec 6} {x : Reg} (hr : regOfNumber r = some x) : x = .tabAddr ↔ r = 0x35#6 := by
  rw [← regNumber_of_regOfNumber hr]
  exact ⟨congrArg regNumber, regNumber_injective (y := .tabAddr)⟩

/-- The refusals of a `WRCFG`: its four checks, of which the mode check spares the table pointer. -/
theorem execWrcfg_answeredWith {p : Response → Prop} {s : State} {r : BitVec 6} {value : Word} (hok : p ⟨.ok, 0#32⟩)
    (hmode : s.sys.mode ≠ .config → r ≠ 0x35#6 → p ⟨.modeError, (modeCode s.sys.mode).setWidth 32⟩)
    (hillegal : ∀ data ∈ [2#32, 3#32, 4#32, 5#32], p ⟨.illegal, data⟩) : AnsweredWith (execWrcfg r value s) p := by
  unfold execWrcfg
  split
  · exact raise_answeredWith (hillegal 3#32 (by simp))
  next x hx =>
  refine ite_answeredWith (fun _ => raise_answeredWith (hillegal 4#32 (by simp))) ?_
  refine ite_answeredWith (fun _ => raise_answeredWith (hillegal 2#32 (by simp))) ?_
  refine ite_answeredWith (fun ⟨hne, hm⟩ => raise_answeredWith (hmode hm (hne ∘ (eq_tabAddr_iff hx).mpr))) ?_
  exact ite_answeredWith (fun _ => respond_answeredWith hok) (raise_answeredWith (hillegal 5#32 (by simp)))

/-- Settles O53, command by command, along the checks of each. -/
theorem statusesEachCommandCanReturn : Obligations.StatusesEachCommandCanReturn := by
  intro i s
  cases i with
  | init =>
    exact inMode_answeredWith (fun hm => .inr (.inl ⟨rfl, hm⟩))
      (ite_answeredWith (fun _ => respond_answeredWith (.inl rfl)) (raise_answeredWith (.inr (.inr rfl))))
  | tick | envGate | envAdv | lfoSetf | lfoAdv | lfoSync | mapAdv =>
    exact inMode_answeredWith (fun hm => .inr ⟨rfl, hm⟩) (respond_answeredWith (.inl rfl))
  | mapNoteon note vel =>
    exact inMode_answeredWith (fun hm => .inr (.inl ⟨rfl, hm⟩))
      (ite_answeredWith (fun _ => raise_answeredWith (.inr (.inr ⟨rfl, .inl rfl⟩)))
        (ite_answeredWith (fun _ => raise_answeredWith (.inr (.inr ⟨rfl, .inr rfl⟩)))
          (ite_answeredWith (fun _ => respond_answeredWith (.inl rfl)) (respond_answeredWith (.inl rfl)))))
  | mapNoteoff note =>
    exact inMode_answeredWith (fun hm => .inr (.inl ⟨rfl, hm⟩))
      (ite_answeredWith (fun _ => raise_answeredWith (.inr (.inr ⟨rfl, rfl⟩))) (respond_answeredWith (.inl rfl)))
  | mapBend bend =>
    exact inMode_answeredWith (fun hm => .inr (.inl ⟨rfl, hm⟩))
      (ite_answeredWith (fun _ => raise_answeredWith (.inr (.inr ⟨rfl, rfl⟩))) (respond_answeredWith (.inl rfl)))
  | wrcfg n value =>
    exact execWrcfg_answeredWith (.inl rfl) (fun hm hn => .inr (.inl ⟨rfl, hm, hn⟩))
      fun data hdata => .inr (.inr ⟨rfl, by simpa using hdata⟩)
  | rdreg n =>
    change AnsweredWith (execRdregWith params n s) _
    unfold execRdregWith
    split
    · exact raise_answeredWith (.inr ⟨rfl, rfl⟩)
    · exact respond_answeredWith (.inl rfl)

/-! ### The commands by mode (60_exceptions.md R196) -/

/-- The table of R196 refuses the command in the mode of the state. -/
def ModeTableRefuses (i : Instr) (s : State) : Prop :=
  (i = .init ∧ s.sys.mode ≠ .config) ∨ (operational i = true ∧ s.sys.mode ≠ .run) ∨
    (∃ r v, i = .wrcfg r v ∧ r ≠ 0x35#6 ∧ s.sys.mode ≠ .config)

/-- A well-formed `WRCFG` passes the checks that come before the mode check (30_encoding.md R87). -/
theorem exec_wrcfg_of_wellFormed {r : BitVec 6} {v : Word} (hwf : WellFormed (.wrcfg r v) = true) :
    ∃ x, regOfNumber r = some x ∧ ∀ s, exec (.wrcfg r v) s = wrcfgReg x v s := by
  change wrcfgWellFormed r v = true at hwf
  unfold wrcfgWellFormed at hwf
  split at hwf
  · contradiction
  next x hx =>
  obtain ⟨hw, hmbz⟩ := Bool.and_eq_true_iff.mp hwf
  exact ⟨x, hx, fun s => exec_wrcfg_of_fits hx hw (of_decide_eq_true hmbz)⟩

theorem exec_of_modeTableRefuses {i : Instr} {s : State} (hwf : WellFormed i = true) (h : ModeTableRefuses i s) :
    exec i s = .next (answered s .modeError ((modeCode s.sys.mode).setWidth 32)) := by
  obtain ⟨rfl, hm⟩ | ⟨hop, hm⟩ | ⟨r, v, rfl, hr, hm⟩ := h
  · exact exec_init_of_ne_config hm
  · exact exec_operational_of_ne_run hop hm
  · obtain ⟨x, hx, hexec⟩ := exec_wrcfg_of_wellFormed hwf
    rw [hexec, wrcfgReg_of_mode (hr ∘ (eq_tabAddr_iff hx).mp) hm]

/-- No command is answered `MODE_ERROR` where the table lets it pass. -/
theorem modeTableRefuses_of_modeError {i : Instr} {s t : State} {r : Response} (h : exec i s = .next t)
    (hresponse : t.response = some r) (hr : r.status = .modeError) : ModeTableRefuses i s := by
  have hstatus := statusesEachCommandCanReturn i s t r h hresponse
  cases i with
  | init => exact .inl ⟨rfl, by simpa [hr] using hstatus⟩
  | wrcfg n value =>
    obtain ⟨hm, hn⟩ : s.sys.mode ≠ .config ∧ n ≠ 0x35#6 := by simpa [hr] using hstatus
    exact .inr (.inr ⟨n, value, rfl, hn, hm⟩)
  | rdreg n => simp [hr] at hstatus
  | tick | envGate | envAdv | lfoSetf | lfoAdv | lfoSync | mapNoteon | mapAdv | mapNoteoff | mapBend =>
    exact .inr (.inl ⟨rfl, by simpa [hr] using hstatus⟩)

/-- Settles O54: the mode check refuses where the table says so, and nothing else answers `MODE_ERROR`. -/
theorem modeErrorsFollowTheModeTable : Obligations.ModeErrorsFollowTheModeTable := by
  intro i s hwf
  split
  next hrefuses =>
    rw [exec_of_modeTableRefuses hwf hrefuses]
    cases s.sys.mode <;> rfl
  next hpasses =>
    obtain ⟨t, ht⟩ := exec_completes i s
    obtain ⟨r, hresponse, -⟩ := (exec_endsInAnswer i s t ht).response_and_inbox
    exact ⟨t, r, ht, hresponse, fun hr => hpasses (modeTableRefuses_of_modeError ht hresponse hr)⟩

/-! ### The changes of mode (60_exceptions.md R197) -/

theorem performed_mode {i : Instr} (hi : i ≠ .init) (s : State) : (performed i s).sys.mode = s.sys.mode := by
  cases i
  case init => contradiction
  case wrcfg r v => cases hr : regOfNumber r <;> simp [performed, hr, writeReg_mode]
  all_goals rfl

theorem exec_mode {i : Instr} (hi : i ≠ .init) {s t : State} (h : exec i s = .next t) : t.sys.mode = s.sys.mode := by
  cases exec_endsInAnswer i s t h with
  | kept r => rfl
  | performed => exact performed_mode hi s
  | failedInit mask hinit => exact absurd hinit hi

/-- Settles O55: every other command keeps the mode, and `INIT` ends in one of three ways. -/
theorem modeChangesOnlyByInit : Obligations.ModeChangesOnlyByInit := by
  intro i s t h hne
  obtain rfl : i = .init := by_contra fun hi => hne (exec_mode hi h)
  obtain ⟨-, rfl⟩ | ⟨hm, -, rfl⟩ | ⟨hm, -, rfl⟩ := exec_init_cases h
  · exact absurd rfl hne
  · exact ⟨rfl, hm, .inl ⟨rfl, rfl⟩⟩
  · exact ⟨rfl, hm, .inr ⟨rfl, _, rfl⟩⟩

/-! ### The failed block (60_exceptions.md R189, R196) -/

/-- After a failed construction a command writes at most the table pointer. -/
theorem exec_of_failed {s t : State} (hm : s.sys.mode = .failed) {i : Instr} (h : exec i s = .next t) :
    ∃ tab response, t = { s with tab, response } := by
  have hconfig : s.sys.mode ≠ .config := by simp [hm]
  cases i with
  | wrcfg r v => exact execWrcfg_of_ne_config hconfig h
  | rdreg r =>
    cases exec_endsInAnswer _ s t h with
    | kept _ => exact ⟨_, _, rfl⟩
    | performed => exact ⟨_, _, rfl⟩
    | failedInit _ hi => contradiction
  | init =>
    rw [exec_init_of_ne_config hconfig] at h
    exact ⟨_, _, (Host.Outcome.next.inj h).symm⟩
  | tick | envGate | envAdv | lfoSetf | lfoAdv | lfoSync | mapNoteon | mapAdv | mapNoteoff | mapBend =>
    rw [exec_operational_of_ne_run rfl (by simp [hm])] at h
    exact ⟨_, _, (Host.Outcome.next.inj h).symm⟩

/-- Settles O57, by induction over the commands: each leaves the block failed. -/
theorem failedBlockStaysFailed : Obligations.FailedBlockStaysFailed := by
  intro l
  induction l with
  | nil => exact fun s _ => ⟨s.tab, s.response, rfl⟩
  | cons i rest ih =>
    intro s hm
    obtain ⟨t, ht⟩ := exec_completes i s
    rw [runCommands_cons ht]
    obtain ⟨tab, response, rfl⟩ := exec_of_failed hm ht
    exact ih _ hm

end Sys2Proof.Machine

/-! PROOFS of the statements of 70_reset_and_hazards.md: the reset input (R210), beside the step with no input
(60_exceptions.md R202). -/

namespace Sys2Proof.Machine

/-- The step of a state with the reset input waiting: of the old state only the inputs behind the reset remain. -/
theorem step_reset {s : State} {rest : List Input} (h : s.inbox = .reset :: rest) :
    step s = .next { State.reset with inbox := rest } := by
  rw [step, fetchInput_cons h]
  exact congrArg Host.Outcome.next (takeReset_eq { s with inbox := rest })

/-- The step of a state with no input waiting. -/
theorem step_of_inbox_eq_nil {s : State} (h : s.inbox = []) : step s = .next s := by rw [step, fetchInput_nil h]

/-- Settles O8: the inputs that wait decide between the reset and the idle step. -/
theorem stepTakesResetAndIdles : Obligations.StepTakesResetAndIdles :=
  ⟨fun _ _ => step_reset, fun _ => step_of_inbox_eq_nil⟩

end Sys2Proof.Machine
